-- ==== Sys2Proof/Word.lean ====
section
/-! DEFINITION. The two word types of the machine: bytes and 16-bit words (00_scope.md R5, R6). -/

namespace Sys2Proof

/-- Eight bits: a general register, a memory cell, a port value (R5). -/
abbrev Byte := BitVec 8

/-- Sixteen bits: PC, SP, a register pair, a memory address (R5). -/
abbrev Word := BitVec 16

end Sys2Proof
end

