-- ==== Sys2Proof/Syntax.lean ====
section
/-! DEFINITION. The instructions: one constructor per row of spec/opcode_table.json (30_encoding.md R87), its operand
bytes as typed arguments; the names of registers, operands, pairs and conditions (R84, R85); and the families of R88,
each the choice of a constructor by its field values. -/

namespace Sys2Proof

/-- The seven general registers (10_state.md R20). -/
inductive Reg where
  | b
  | c
  | d
  | e
  | h
  | l
  | a
  deriving DecidableEq, Repr

/-- An 8-bit operand: a register, or M, the byte at HL (30_encoding.md R84, 40_data_transfer.md R101). -/
inductive Operand where
  | reg (r : Reg)
  | m
  deriving DecidableEq, Repr

/-- The three register pairs, views of two registers (10_state.md R21). -/
inductive RegPair where
  | bc
  | de
  | hl
  deriving DecidableEq, Repr

/-- A 16-bit place of LXI, INX, DCX and DAD: a register pair or SP (30_encoding.md R84). -/
inductive Pair where
  | rp (p : RegPair)
  | sp
  deriving DecidableEq, Repr

/-- The eight conditions in the order of their codes (10_state.md R30). -/
inductive Cond where
  | nz
  | z
  | nc
  | c
  | po
  | pe
  | p
  | m
  deriving DecidableEq, Repr

/-- The eight operations of the 8-bit ALU in the order of their codes (41_alu8.md R126). -/
inductive AluOp where
  | add
  | adc
  | sub
  | sbb
  | ana
  | xra
  | ora
  | cmp
  deriving DecidableEq, Repr

/-- The instructions, one constructor per opcode byte (30_encoding.md R87); a name that ends in two hexadecimal digits
is an alias byte (R89). Those with operand bytes stand first, each part in the order of the opcode bytes. Operands: `d` data byte, `p` port number, `w` immediate word, `a` address (R86). -/
inductive Instr where
  /-- 0x01 LXI B,d16 (R108). -/
  | lxiB (w : Word)
  /-- 0x06 MVI B,d8 (R106). -/
  | mviB (d : Byte)
  /-- 0x0E MVI C,d8 (R106). -/
  | mviC (d : Byte)
  /-- 0x11 LXI D,d16 (R108). -/
  | lxiD (w : Word)
  /-- 0x16 MVI D,d8 (R106). -/
  | mviD (d : Byte)
  /-- 0x1E MVI E,d8 (R106). -/
  | mviE (d : Byte)
  /-- 0x21 LXI H,d16 (R108). -/
  | lxiH (w : Word)
  /-- 0x22 SHLD a16 (R112). -/
  | shld (a : Word)
  /-- 0x26 MVI H,d8 (R106). -/
  | mviH (d : Byte)
  /-- 0x2A LHLD a16 (R111). -/
  | lhld (a : Word)
  /-- 0x2E MVI L,d8 (R106). -/
  | mviL (d : Byte)
  /-- 0x31 LXI SP,d16 (R108). -/
  | lxiSp (w : Word)
  /-- 0x32 STA a16 (R110). -/
  | sta (a : Word)
  /-- 0x36 MVI M,d8 (R107). -/
  | mviM (d : Byte)
  /-- 0x3A LDA a16 (R109). -/
  | lda (a : Word)
  /-- 0x3E MVI A,d8 (R106). -/
  | mviA (d : Byte)
  /-- 0xC2 JNZ a16 (R184). -/
  | jnz (a : Word)
  /-- 0xC3 JMP a16 (R182). -/
  | jmp (a : Word)
  /-- 0xC4 CNZ a16 (R188). -/
  | cnz (a : Word)
  /-- 0xC6 ADI d8 (R128). -/
  | adi (d : Byte)
  /-- 0xCA JZ a16 (R184). -/
  | jz (a : Word)
  /-- 0xCB *JMP a16 (R183). -/
  | jmpCB (a : Word)
  /-- 0xCC CZ a16 (R188). -/
  | cz (a : Word)
  /-- 0xCD CALL a16 (R186). -/
  | call (a : Word)
  /-- 0xCE ACI d8 (R130). -/
  | aci (d : Byte)
  /-- 0xD2 JNC a16 (R184). -/
  | jnc (a : Word)
  /-- 0xD3 OUT p8 (R212). -/
  | outPort (p : Byte)
  /-- 0xD4 CNC a16 (R188). -/
  | cnc (a : Word)
  /-- 0xD6 SUI d8 (R132). -/
  | sui (d : Byte)
  /-- 0xDA JC a16 (R184). -/
  | jc (a : Word)
  /-- 0xDB IN p8 (R211). -/
  | inPort (p : Byte)
  /-- 0xDC CC a16 (R188). -/
  | cc (a : Word)
  /-- 0xDD *CALL a16 (R187). -/
  | callDD (a : Word)
  /-- 0xDE SBI d8 (R134). -/
  | sbi (d : Byte)
  /-- 0xE2 JPO a16 (R184). -/
  | jpo (a : Word)
  /-- 0xE4 CPO a16 (R188). -/
  | cpo (a : Word)
  /-- 0xE6 ANI d8 (R136). -/
  | ani (d : Byte)
  /-- 0xEA JPE a16 (R184). -/
  | jpe (a : Word)
  /-- 0xEC CPE a16 (R188). -/
  | cpe (a : Word)
  /-- 0xED *CALL a16 (R187). -/
  | callED (a : Word)
  /-- 0xEE XRI d8 (R138). -/
  | xri (d : Byte)
  /-- 0xF2 JP a16 (R184). -/
  | jp (a : Word)
  /-- 0xF4 CP a16 (R188). -/
  | cp (a : Word)
  /-- 0xF6 ORI d8 (R140). -/
  | ori (d : Byte)
  /-- 0xFA JM a16 (R184). -/
  | jm (a : Word)
  /-- 0xFC CM a16 (R188). -/
  | cm (a : Word)
  /-- 0xFD *CALL a16 (R187). -/
  | callFD (a : Word)
  /-- 0xFE CPI d8 (R142). -/
  | cpi (d : Byte)
  /-- 0x00 NOP (R230). -/
  | nop
  /-- 0x02 STAX B (R114). -/
  | staxB
  /-- 0x03 INX B (R157). -/
  | inxB
  /-- 0x04 INR B (R153). -/
  | inrB
  /-- 0x05 DCR B (R155). -/
  | dcrB
  /-- 0x07 RLC (R168). -/
  | rlc
  /-- 0x08 *NOP (R231). -/
  | nop08
  /-- 0x09 DAD B (R159). -/
  | dadB
  /-- 0x0A LDAX B (R113). -/
  | ldaxB
  /-- 0x0B DCX B (R158). -/
  | dcxB
  /-- 0x0C INR C (R153). -/
  | inrC
  /-- 0x0D DCR C (R155). -/
  | dcrC
  /-- 0x0F RRC (R169). -/
  | rrc
  /-- 0x10 *NOP (R231). -/
  | nop10
  /-- 0x12 STAX D (R114). -/
  | staxD
  /-- 0x13 INX D (R157). -/
  | inxD
  /-- 0x14 INR D (R153). -/
  | inrD
  /-- 0x15 DCR D (R155). -/
  | dcrD
  /-- 0x17 RAL (R170). -/
  | ral
  /-- 0x18 *NOP (R231). -/
  | nop18
  /-- 0x19 DAD D (R159). -/
  | dadD
  /-- 0x1A LDAX D (R113). -/
  | ldaxD
  /-- 0x1B DCX D (R158). -/
  | dcxD
  /-- 0x1C INR E (R153). -/
  | inrE
  /-- 0x1D DCR E (R155). -/
  | dcrE
  /-- 0x1F RAR (R171). -/
  | rar
  /-- 0x20 *NOP (R231). -/
  | nop20
  /-- 0x23 INX H (R157). -/
  | inxH
  /-- 0x24 INR H (R153). -/
  | inrH
  /-- 0x25 DCR H (R155). -/
  | dcrH
  /-- 0x27 DAA (R165). -/
  | daa
  /-- 0x28 *NOP (R231). -/
  | nop28
  /-- 0x29 DAD H (R159). -/
  | dadH
  /-- 0x2B DCX H (R158). -/
  | dcxH
  /-- 0x2C INR L (R153). -/
  | inrL
  /-- 0x2D DCR L (R155). -/
  | dcrL
  /-- 0x2F CMA (R173). -/
  | cma
  /-- 0x30 *NOP (R231). -/
  | nop30
  /-- 0x33 INX SP (R157). -/
  | inxSp
  /-- 0x34 INR M (R154). -/
  | inrM
  /-- 0x35 DCR M (R156). -/
  | dcrM
  /-- 0x37 STC (R174). -/
  | stc
  /-- 0x38 *NOP (R231). -/
  | nop38
  /-- 0x39 DAD SP (R159). -/
  | dadSp
  /-- 0x3B DCX SP (R158). -/
  | dcxSp
  /-- 0x3C INR A (R153). -/
  | inrA
  /-- 0x3D DCR A (R155). -/
  | dcrA
  /-- 0x3F CMC (R175). -/
  | cmc
  /-- 0x40 MOV B,B (R103). -/
  | movBB
  /-- 0x41 MOV B,C (R103). -/
  | movBC
  /-- 0x42 MOV B,D (R103). -/
  | movBD
  /-- 0x43 MOV B,E (R103). -/
  | movBE
  /-- 0x44 MOV B,H (R103). -/
  | movBH
  /-- 0x45 MOV B,L (R103). -/
  | movBL
  /-- 0x46 MOV B,M (R104). -/
  | movBM
  /-- 0x47 MOV B,A (R103). -/
  | movBA
  /-- 0x48 MOV C,B (R103). -/
  | movCB
  /-- 0x49 MOV C,C (R103). -/
  | movCC
  /-- 0x4A MOV C,D (R103). -/
  | movCD
  /-- 0x4B MOV C,E (R103). -/
  | movCE
  /-- 0x4C MOV C,H (R103). -/
  | movCH
  /-- 0x4D MOV C,L (R103). -/
  | movCL
  /-- 0x4E MOV C,M (R104). -/
  | movCM
  /-- 0x4F MOV C,A (R103). -/
  | movCA
  /-- 0x50 MOV D,B (R103). -/
  | movDB
  /-- 0x51 MOV D,C (R103). -/
  | movDC
  /-- 0x52 MOV D,D (R103). -/
  | movDD
  /-- 0x53 MOV D,E (R103). -/
  | movDE
  /-- 0x54 MOV D,H (R103). -/
  | movDH
  /-- 0x55 MOV D,L (R103). -/
  | movDL
  /-- 0x56 MOV D,M (R104). -/
  | movDM
  /-- 0x57 MOV D,A (R103). -/
  | movDA
  /-- 0x58 MOV E,B (R103). -/
  | movEB
  /-- 0x59 MOV E,C (R103). -/
  | movEC
  /-- 0x5A MOV E,D (R103). -/
  | movED
  /-- 0x5B MOV E,E (R103). -/
  | movEE
  /-- 0x5C MOV E,H (R103). -/
  | movEH
  /-- 0x5D MOV E,L (R103). -/
  | movEL
  /-- 0x5E MOV E,M (R104). -/
  | movEM
  /-- 0x5F MOV E,A (R103). -/
  | movEA
  /-- 0x60 MOV H,B (R103). -/
  | movHB
  /-- 0x61 MOV H,C (R103). -/
  | movHC
  /-- 0x62 MOV H,D (R103). -/
  | movHD
  /-- 0x63 MOV H,E (R103). -/
  | movHE
  /-- 0x64 MOV H,H (R103). -/
  | movHH
  /-- 0x65 MOV H,L (R103). -/
  | movHL
  /-- 0x66 MOV H,M (R104). -/
  | movHM
  /-- 0x67 MOV H,A (R103). -/
  | movHA
  /-- 0x68 MOV L,B (R103). -/
  | movLB
  /-- 0x69 MOV L,C (R103). -/
  | movLC
  /-- 0x6A MOV L,D (R103). -/
  | movLD
  /-- 0x6B MOV L,E (R103). -/
  | movLE
  /-- 0x6C MOV L,H (R103). -/
  | movLH
  /-- 0x6D MOV L,L (R103). -/
  | movLL
  /-- 0x6E MOV L,M (R104). -/
  | movLM
  /-- 0x6F MOV L,A (R103). -/
  | movLA
  /-- 0x70 MOV M,B (R105). -/
  | movMB
  /-- 0x71 MOV M,C (R105). -/
  | movMC
  /-- 0x72 MOV M,D (R105). -/
  | movMD
  /-- 0x73 MOV M,E (R105). -/
  | movME
  /-- 0x74 MOV M,H (R105). -/
  | movMH
  /-- 0x75 MOV M,L (R105). -/
  | movML
  /-- 0x76 HLT (R232). -/
  | hlt
  /-- 0x77 MOV M,A (R105). -/
  | movMA
  /-- 0x78 MOV A,B (R103). -/
  | movAB
  /-- 0x79 MOV A,C (R103). -/
  | movAC
  /-- 0x7A MOV A,D (R103). -/
  | movAD
  /-- 0x7B MOV A,E (R103). -/
  | movAE
  /-- 0x7C MOV A,H (R103). -/
  | movAH
  /-- 0x7D MOV A,L (R103). -/
  | movAL
  /-- 0x7E MOV A,M (R104). -/
  | movAM
  /-- 0x7F MOV A,A (R103). -/
  | movAA
  /-- 0x80 ADD B (R127). -/
  | addB
  /-- 0x81 ADD C (R127). -/
  | addC
  /-- 0x82 ADD D (R127). -/
  | addD
  /-- 0x83 ADD E (R127). -/
  | addE
  /-- 0x84 ADD H (R127). -/
  | addH
  /-- 0x85 ADD L (R127). -/
  | addL
  /-- 0x86 ADD M (R127). -/
  | addM
  /-- 0x87 ADD A (R127). -/
  | addA
  /-- 0x88 ADC B (R129). -/
  | adcB
  /-- 0x89 ADC C (R129). -/
  | adcC
  /-- 0x8A ADC D (R129). -/
  | adcD
  /-- 0x8B ADC E (R129). -/
  | adcE
  /-- 0x8C ADC H (R129). -/
  | adcH
  /-- 0x8D ADC L (R129). -/
  | adcL
  /-- 0x8E ADC M (R129). -/
  | adcM
  /-- 0x8F ADC A (R129). -/
  | adcA
  /-- 0x90 SUB B (R131). -/
  | subB
  /-- 0x91 SUB C (R131). -/
  | subC
  /-- 0x92 SUB D (R131). -/
  | subD
  /-- 0x93 SUB E (R131). -/
  | subE
  /-- 0x94 SUB H (R131). -/
  | subH
  /-- 0x95 SUB L (R131). -/
  | subL
  /-- 0x96 SUB M (R131). -/
  | subM
  /-- 0x97 SUB A (R131). -/
  | subA
  /-- 0x98 SBB B (R133). -/
  | sbbB
  /-- 0x99 SBB C (R133). -/
  | sbbC
  /-- 0x9A SBB D (R133). -/
  | sbbD
  /-- 0x9B SBB E (R133). -/
  | sbbE
  /-- 0x9C SBB H (R133). -/
  | sbbH
  /-- 0x9D SBB L (R133). -/
  | sbbL
  /-- 0x9E SBB M (R133). -/
  | sbbM
  /-- 0x9F SBB A (R133). -/
  | sbbA
  /-- 0xA0 ANA B (R135). -/
  | anaB
  /-- 0xA1 ANA C (R135). -/
  | anaC
  /-- 0xA2 ANA D (R135). -/
  | anaD
  /-- 0xA3 ANA E (R135). -/
  | anaE
  /-- 0xA4 ANA H (R135). -/
  | anaH
  /-- 0xA5 ANA L (R135). -/
  | anaL
  /-- 0xA6 ANA M (R135). -/
  | anaM
  /-- 0xA7 ANA A (R135). -/
  | anaA
  /-- 0xA8 XRA B (R137). -/
  | xraB
  /-- 0xA9 XRA C (R137). -/
  | xraC
  /-- 0xAA XRA D (R137). -/
  | xraD
  /-- 0xAB XRA E (R137). -/
  | xraE
  /-- 0xAC XRA H (R137). -/
  | xraH
  /-- 0xAD XRA L (R137). -/
  | xraL
  /-- 0xAE XRA M (R137). -/
  | xraM
  /-- 0xAF XRA A (R137). -/
  | xraA
  /-- 0xB0 ORA B (R139). -/
  | oraB
  /-- 0xB1 ORA C (R139). -/
  | oraC
  /-- 0xB2 ORA D (R139). -/
  | oraD
  /-- 0xB3 ORA E (R139). -/
  | oraE
  /-- 0xB4 ORA H (R139). -/
  | oraH
  /-- 0xB5 ORA L (R139). -/
  | oraL
  /-- 0xB6 ORA M (R139). -/
  | oraM
  /-- 0xB7 ORA A (R139). -/
  | oraA
  /-- 0xB8 CMP B (R141). -/
  | cmpB
  /-- 0xB9 CMP C (R141). -/
  | cmpC
  /-- 0xBA CMP D (R141). -/
  | cmpD
  /-- 0xBB CMP E (R141). -/
  | cmpE
  /-- 0xBC CMP H (R141). -/
  | cmpH
  /-- 0xBD CMP L (R141). -/
  | cmpL
  /-- 0xBE CMP M (R141). -/
  | cmpM
  /-- 0xBF CMP A (R141). -/
  | cmpA
  /-- 0xC0 RNZ (R191). -/
  | rnz
  /-- 0xC1 POP B (R204). -/
  | popB
  /-- 0xC5 PUSH B (R202). -/
  | pushB
  /-- 0xC7 RST 0 (R192). -/
  | rst0
  /-- 0xC8 RZ (R191). -/
  | rz
  /-- 0xC9 RET (R189). -/
  | ret
  /-- 0xCF RST 1 (R192). -/
  | rst1
  /-- 0xD0 RNC (R191). -/
  | rnc
  /-- 0xD1 POP D (R204). -/
  | popD
  /-- 0xD5 PUSH D (R202). -/
  | pushD
  /-- 0xD7 RST 2 (R192). -/
  | rst2
  /-- 0xD8 RC (R191). -/
  | rc
  /-- 0xD9 *RET (R190). -/
  | retD9
  /-- 0xDF RST 3 (R192). -/
  | rst3
  /-- 0xE0 RPO (R191). -/
  | rpo
  /-- 0xE1 POP H (R204). -/
  | popH
  /-- 0xE3 XTHL (R116). -/
  | xthl
  /-- 0xE5 PUSH H (R202). -/
  | pushH
  /-- 0xE7 RST 4 (R192). -/
  | rst4
  /-- 0xE8 RPE (R191). -/
  | rpe
  /-- 0xE9 PCHL (R185). -/
  | pchl
  /-- 0xEB XCHG (R115). -/
  | xchg
  /-- 0xEF RST 5 (R192). -/
  | rst5
  /-- 0xF0 RP (R191). -/
  | rp
  /-- 0xF1 POP PSW (R205). -/
  | popPsw
  /-- 0xF3 DI (R234). -/
  | di
  /-- 0xF5 PUSH PSW (R203). -/
  | pushPsw
  /-- 0xF7 RST 6 (R192). -/
  | rst6
  /-- 0xF8 RM (R191). -/
  | rm
  /-- 0xF9 SPHL (R117). -/
  | sphl
  /-- 0xFB EI (R233). -/
  | ei
  /-- 0xFF RST 7 (R192). -/
  | rst7
  deriving DecidableEq, Repr

/-- MOV r1,r2: `01dddsss` with neither field 6 (40_data_transfer.md R103). -/
def Instr.movRR : Reg → Reg → Instr
  | .b, .b => .movBB
  | .b, .c => .movBC
  | .b, .d => .movBD
  | .b, .e => .movBE
  | .b, .h => .movBH
  | .b, .l => .movBL
  | .b, .a => .movBA
  | .c, .b => .movCB
  | .c, .c => .movCC
  | .c, .d => .movCD
  | .c, .e => .movCE
  | .c, .h => .movCH
  | .c, .l => .movCL
  | .c, .a => .movCA
  | .d, .b => .movDB
  | .d, .c => .movDC
  | .d, .d => .movDD
  | .d, .e => .movDE
  | .d, .h => .movDH
  | .d, .l => .movDL
  | .d, .a => .movDA
  | .e, .b => .movEB
  | .e, .c => .movEC
  | .e, .d => .movED
  | .e, .e => .movEE
  | .e, .h => .movEH
  | .e, .l => .movEL
  | .e, .a => .movEA
  | .h, .b => .movHB
  | .h, .c => .movHC
  | .h, .d => .movHD
  | .h, .e => .movHE
  | .h, .h => .movHH
  | .h, .l => .movHL
  | .h, .a => .movHA
  | .l, .b => .movLB
  | .l, .c => .movLC
  | .l, .d => .movLD
  | .l, .e => .movLE
  | .l, .h => .movLH
  | .l, .l => .movLL
  | .l, .a => .movLA
  | .a, .b => .movAB
  | .a, .c => .movAC
  | .a, .d => .movAD
  | .a, .e => .movAE
  | .a, .h => .movAH
  | .a, .l => .movAL
  | .a, .a => .movAA

/-- MOV r,M: `01ddd110` (R104). -/
def Instr.movRM : Reg → Instr
  | .b => .movBM
  | .c => .movCM
  | .d => .movDM
  | .e => .movEM
  | .h => .movHM
  | .l => .movLM
  | .a => .movAM

/-- MOV M,r: `01110sss` (R105). -/
def Instr.movMR : Reg → Instr
  | .b => .movMB
  | .c => .movMC
  | .d => .movMD
  | .e => .movME
  | .h => .movMH
  | .l => .movML
  | .a => .movMA

/-- MVI r,d8: `00ddd110` (R106). -/
def Instr.mviR : Reg → Byte → Instr
  | .b, v => .mviB v
  | .c, v => .mviC v
  | .d, v => .mviD v
  | .e, v => .mviE v
  | .h, v => .mviH v
  | .l, v => .mviL v
  | .a, v => .mviA v

/-- LXI rp,d16: `00pp0001` (R108). -/
def Instr.lxi : Pair → Word → Instr
  | .rp .bc, w => .lxiB w
  | .rp .de, w => .lxiD w
  | .rp .hl, w => .lxiH w
  | .sp, w => .lxiSp w

/-- INX rp: `00pp0011` (42_incdec_pair.md R157). -/
def Instr.inx : Pair → Instr
  | .rp .bc => .inxB
  | .rp .de => .inxD
  | .rp .hl => .inxH
  | .sp => .inxSp

/-- DCX rp: `00pp1011` (R158). -/
def Instr.dcx : Pair → Instr
  | .rp .bc => .dcxB
  | .rp .de => .dcxD
  | .rp .hl => .dcxH
  | .sp => .dcxSp

/-- DAD rp: `00pp1001` (R159). -/
def Instr.dad : Pair → Instr
  | .rp .bc => .dadB
  | .rp .de => .dadD
  | .rp .hl => .dadH
  | .sp => .dadSp

/-- INR r: `00ddd100` (R153). -/
def Instr.inrR : Reg → Instr
  | .b => .inrB
  | .c => .inrC
  | .d => .inrD
  | .e => .inrE
  | .h => .inrH
  | .l => .inrL
  | .a => .inrA

/-- DCR r: `00ddd101` (R155). -/
def Instr.dcrR : Reg → Instr
  | .b => .dcrB
  | .c => .dcrC
  | .d => .dcrD
  | .e => .dcrE
  | .h => .dcrH
  | .l => .dcrL
  | .a => .dcrA

/-- The register and M forms of the ALU: `10ooosss` (41_alu8.md R126). -/
def Instr.alu : AluOp → Operand → Instr
  | .add, .reg .b => .addB
  | .add, .reg .c => .addC
  | .add, .reg .d => .addD
  | .add, .reg .e => .addE
  | .add, .reg .h => .addH
  | .add, .reg .l => .addL
  | .add, .m => .addM
  | .add, .reg .a => .addA
  | .adc, .reg .b => .adcB
  | .adc, .reg .c => .adcC
  | .adc, .reg .d => .adcD
  | .adc, .reg .e => .adcE
  | .adc, .reg .h => .adcH
  | .adc, .reg .l => .adcL
  | .adc, .m => .adcM
  | .adc, .reg .a => .adcA
  | .sub, .reg .b => .subB
  | .sub, .reg .c => .subC
  | .sub, .reg .d => .subD
  | .sub, .reg .e => .subE
  | .sub, .reg .h => .subH
  | .sub, .reg .l => .subL
  | .sub, .m => .subM
  | .sub, .reg .a => .subA
  | .sbb, .reg .b => .sbbB
  | .sbb, .reg .c => .sbbC
  | .sbb, .reg .d => .sbbD
  | .sbb, .reg .e => .sbbE
  | .sbb, .reg .h => .sbbH
  | .sbb, .reg .l => .sbbL
  | .sbb, .m => .sbbM
  | .sbb, .reg .a => .sbbA
  | .ana, .reg .b => .anaB
  | .ana, .reg .c => .anaC
  | .ana, .reg .d => .anaD
  | .ana, .reg .e => .anaE
  | .ana, .reg .h => .anaH
  | .ana, .reg .l => .anaL
  | .ana, .m => .anaM
  | .ana, .reg .a => .anaA
  | .xra, .reg .b => .xraB
  | .xra, .reg .c => .xraC
  | .xra, .reg .d => .xraD
  | .xra, .reg .e => .xraE
  | .xra, .reg .h => .xraH
  | .xra, .reg .l => .xraL
  | .xra, .m => .xraM
  | .xra, .reg .a => .xraA
  | .ora, .reg .b => .oraB
  | .ora, .reg .c => .oraC
  | .ora, .reg .d => .oraD
  | .ora, .reg .e => .oraE
  | .ora, .reg .h => .oraH
  | .ora, .reg .l => .oraL
  | .ora, .m => .oraM
  | .ora, .reg .a => .oraA
  | .cmp, .reg .b => .cmpB
  | .cmp, .reg .c => .cmpC
  | .cmp, .reg .d => .cmpD
  | .cmp, .reg .e => .cmpE
  | .cmp, .reg .h => .cmpH
  | .cmp, .reg .l => .cmpL
  | .cmp, .m => .cmpM
  | .cmp, .reg .a => .cmpA

/-- The immediate forms of the ALU: `11ooo110` (R126). -/
def Instr.aluImm : AluOp → Byte → Instr
  | .add, v => .adi v
  | .adc, v => .aci v
  | .sub, v => .sui v
  | .sbb, v => .sbi v
  | .ana, v => .ani v
  | .xra, v => .xri v
  | .ora, v => .ori v
  | .cmp, v => .cpi v

/-- Conditional jump: `11ccc010` (44_control.md R184). -/
def Instr.jcc : Cond → Word → Instr
  | .nz, a => .jnz a
  | .z, a => .jz a
  | .nc, a => .jnc a
  | .c, a => .jc a
  | .po, a => .jpo a
  | .pe, a => .jpe a
  | .p, a => .jp a
  | .m, a => .jm a

/-- Conditional call: `11ccc100` (R188). -/
def Instr.ccc : Cond → Word → Instr
  | .nz, a => .cnz a
  | .z, a => .cz a
  | .nc, a => .cnc a
  | .c, a => .cc a
  | .po, a => .cpo a
  | .pe, a => .cpe a
  | .p, a => .cp a
  | .m, a => .cm a

/-- Conditional return: `11ccc000` (R191). -/
def Instr.rcc : Cond → Instr
  | .nz => .rnz
  | .z => .rz
  | .nc => .rnc
  | .c => .rc
  | .po => .rpo
  | .pe => .rpe
  | .p => .rp
  | .m => .rm

/-- PUSH rp: `11pp0101` with p in 0..2 (45_stack.md R202). -/
def Instr.push : RegPair → Instr
  | .bc => .pushB
  | .de => .pushD
  | .hl => .pushH

/-- POP rp: `11pp0001` with p in 0..2 (R204). -/
def Instr.pop : RegPair → Instr
  | .bc => .popB
  | .de => .popD
  | .hl => .popH

/-- RST n: `11nnn111` (44_control.md R192). -/
def Instr.rst (n : BitVec 3) : Instr :=
  match n.toNat with
  | 0 => .rst0
  | 1 => .rst1
  | 2 => .rst2
  | 3 => .rst3
  | 4 => .rst4
  | 5 => .rst5
  | 6 => .rst6
  | _ => .rst7

/-- NOP and its seven alias bytes (47_system.md R230, R231). -/
def Instr.nopForms : List Instr :=
  [.nop, .nop08, .nop10, .nop18, .nop20, .nop28, .nop30, .nop38]

/-- JMP and its alias byte (44_control.md R182, R183). -/
def Instr.jmpForms (a : Word) : List Instr := [.jmp a, .jmpCB a]

/-- CALL and its three alias bytes (R186, R187). -/
def Instr.callForms (a : Word) : List Instr := [.call a, .callDD a, .callED a, .callFD a]

/-- RET and its alias byte (R189, R190). -/
def Instr.retForms : List Instr := [.ret, .retD9]

end Sys2Proof
end

