-- ==== Sys2Proof/Decode.lean ====
section
/-! DEFINITION. From bytes to instructions and back (30_encoding.md). The decoder is the map of R87, one function per
row of sixteen opcodes, total on every byte (R90); `decodeBytes` reads one instruction off a list of bytes and rejects
a list that is too short, by name. After it the encoder, from the same map, and the host's `decodeTableWord`. -/

namespace Sys2Proof

/-- `{hi, lo}`: the word of two bytes (00_scope.md R6). -/
def joinBytes (hi lo : Byte) : Word := hi ++ lo

/-- Bits 15 to 8 of a word. -/
def hiByte (w : Word) : Byte := w.extractLsb' 8 8

/-- Bits 7 to 0 of a word. -/
def loByte (w : Word) : Byte := w.extractLsb' 0 8

/-- The opcodes of three-byte instructions, listed as R81 lists them. -/
def threeByteOpcodes : List Byte :=
  [0x01, 0x11, 0x21, 0x31, 0x22, 0x2A, 0x32, 0x3A, 0xC3, 0xCB] ++
  [0xC2, 0xCA, 0xD2, 0xDA, 0xE2, 0xEA, 0xF2, 0xFA, 0xCD, 0xDD, 0xED, 0xFD] ++
  [0xC4, 0xCC, 0xD4, 0xDC, 0xE4, 0xEC, 0xF4, 0xFC]

/-- The opcodes of two-byte instructions, listed as R81 lists them. -/
def twoByteOpcodes : List Byte :=
  [0x06, 0x0E, 0x16, 0x1E, 0x26, 0x2E, 0x36, 0x3E] ++
  [0xC6, 0xCE, 0xD6, 0xDE, 0xE6, 0xEE, 0xF6, 0xFE, 0xD3, 0xDB]

/-- The length of an instruction, a function of its opcode byte alone (R81, R92). -/
def opcodeLength (op : Byte) : Nat :=
  if op ∈ threeByteOpcodes then 3 else if op ∈ twoByteOpcodes then 2 else 1

/-- Row 0x of the opcode map (R87), by low nibble; `v` the byte after the opcode, `w` the word after it. -/
def decodeRow0 (lo : Nat) (v : Byte) (w : Word) : Instr :=
  match lo with
  | 0x0 => .nop
  | 0x1 => .lxiB w
  | 0x2 => .staxB
  | 0x3 => .inxB
  | 0x4 => .inrB
  | 0x5 => .dcrB
  | 0x6 => .mviB v
  | 0x7 => .rlc
  | 0x8 => .nop08
  | 0x9 => .dadB
  | 0xA => .ldaxB
  | 0xB => .dcxB
  | 0xC => .inrC
  | 0xD => .dcrC
  | 0xE => .mviC v
  | _ => .rrc

/-- Row 1x of the opcode map (R87), by low nibble; `v` the byte after the opcode, `w` the word after it. -/
def decodeRow1 (lo : Nat) (v : Byte) (w : Word) : Instr :=
  match lo with
  | 0x0 => .nop10
  | 0x1 => .lxiD w
  | 0x2 => .staxD
  | 0x3 => .inxD
  | 0x4 => .inrD
  | 0x5 => .dcrD
  | 0x6 => .mviD v
  | 0x7 => .ral
  | 0x8 => .nop18
  | 0x9 => .dadD
  | 0xA => .ldaxD
  | 0xB => .dcxD
  | 0xC => .inrE
  | 0xD => .dcrE
  | 0xE => .mviE v
  | _ => .rar

/-- Row 2x of the opcode map (R87), by low nibble; `v` the byte after the opcode, `w` the word after it. -/
def decodeRow2 (lo : Nat) (v : Byte) (w : Word) : Instr :=
  match lo with
  | 0x0 => .nop20
  | 0x1 => .lxiH w
  | 0x2 => .shld w
  | 0x3 => .inxH
  | 0x4 => .inrH
  | 0x5 => .dcrH
  | 0x6 => .mviH v
  | 0x7 => .daa
  | 0x8 => .nop28
  | 0x9 => .dadH
  | 0xA => .lhld w
  | 0xB => .dcxH
  | 0xC => .inrL
  | 0xD => .dcrL
  | 0xE => .mviL v
  | _ => .cma

/-- Row 3x of the opcode map (R87), by low nibble; `v` the byte after the opcode, `w` the word after it. -/
def decodeRow3 (lo : Nat) (v : Byte) (w : Word) : Instr :=
  match lo with
  | 0x0 => .nop30
  | 0x1 => .lxiSp w
  | 0x2 => .sta w
  | 0x3 => .inxSp
  | 0x4 => .inrM
  | 0x5 => .dcrM
  | 0x6 => .mviM v
  | 0x7 => .stc
  | 0x8 => .nop38
  | 0x9 => .dadSp
  | 0xA => .lda w
  | 0xB => .dcxSp
  | 0xC => .inrA
  | 0xD => .dcrA
  | 0xE => .mviA v
  | _ => .cmc

/-- Row 4x of the opcode map (R87), by low nibble; `v` the byte after the opcode, `w` the word after it. -/
def decodeRow4 (lo : Nat) (_v : Byte) (_w : Word) : Instr :=
  match lo with
  | 0x0 => .movBB
  | 0x1 => .movBC
  | 0x2 => .movBD
  | 0x3 => .movBE
  | 0x4 => .movBH
  | 0x5 => .movBL
  | 0x6 => .movBM
  | 0x7 => .movBA
  | 0x8 => .movCB
  | 0x9 => .movCC
  | 0xA => .movCD
  | 0xB => .movCE
  | 0xC => .movCH
  | 0xD => .movCL
  | 0xE => .movCM
  | _ => .movCA

/-- Row 5x of the opcode map (R87), by low nibble; `v` the byte after the opcode, `w` the word after it. -/
def decodeRow5 (lo : Nat) (_v : Byte) (_w : Word) : Instr :=
  match lo with
  | 0x0 => .movDB
  | 0x1 => .movDC
  | 0x2 => .movDD
  | 0x3 => .movDE
  | 0x4 => .movDH
  | 0x5 => .movDL
  | 0x6 => .movDM
  | 0x7 => .movDA
  | 0x8 => .movEB
  | 0x9 => .movEC
  | 0xA => .movED
  | 0xB => .movEE
  | 0xC => .movEH
  | 0xD => .movEL
  | 0xE => .movEM
  | _ => .movEA

/-- Row 6x of the opcode map (R87), by low nibble; `v` the byte after the opcode, `w` the word after it. -/
def decodeRow6 (lo : Nat) (_v : Byte) (_w : Word) : Instr :=
  match lo with
  | 0x0 => .movHB
  | 0x1 => .movHC
  | 0x2 => .movHD
  | 0x3 => .movHE
  | 0x4 => .movHH
  | 0x5 => .movHL
  | 0x6 => .movHM
  | 0x7 => .movHA
  | 0x8 => .movLB
  | 0x9 => .movLC
  | 0xA => .movLD
  | 0xB => .movLE
  | 0xC => .movLH
  | 0xD => .movLL
  | 0xE => .movLM
  | _ => .movLA

/-- Row 7x of the opcode map (R87), by low nibble; `v` the byte after the opcode, `w` the word after it. -/
def decodeRow7 (lo : Nat) (_v : Byte) (_w : Word) : Instr :=
  match lo with
  | 0x0 => .movMB
  | 0x1 => .movMC
  | 0x2 => .movMD
  | 0x3 => .movME
  | 0x4 => .movMH
  | 0x5 => .movML
  | 0x6 => .hlt
  | 0x7 => .movMA
  | 0x8 => .movAB
  | 0x9 => .movAC
  | 0xA => .movAD
  | 0xB => .movAE
  | 0xC => .movAH
  | 0xD => .movAL
  | 0xE => .movAM
  | _ => .movAA

/-- Row 8x of the opcode map (R87), by low nibble; `v` the byte after the opcode, `w` the word after it. -/
def decodeRow8 (lo : Nat) (_v : Byte) (_w : Word) : Instr :=
  match lo with
  | 0x0 => .addB
  | 0x1 => .addC
  | 0x2 => .addD
  | 0x3 => .addE
  | 0x4 => .addH
  | 0x5 => .addL
  | 0x6 => .addM
  | 0x7 => .addA
  | 0x8 => .adcB
  | 0x9 => .adcC
  | 0xA => .adcD
  | 0xB => .adcE
  | 0xC => .adcH
  | 0xD => .adcL
  | 0xE => .adcM
  | _ => .adcA

/-- Row 9x of the opcode map (R87), by low nibble; `v` the byte after the opcode, `w` the word after it. -/
def decodeRow9 (lo : Nat) (_v : Byte) (_w : Word) : Instr :=
  match lo with
  | 0x0 => .subB
  | 0x1 => .subC
  | 0x2 => .subD
  | 0x3 => .subE
  | 0x4 => .subH
  | 0x5 => .subL
  | 0x6 => .subM
  | 0x7 => .subA
  | 0x8 => .sbbB
  | 0x9 => .sbbC
  | 0xA => .sbbD
  | 0xB => .sbbE
  | 0xC => .sbbH
  | 0xD => .sbbL
  | 0xE => .sbbM
  | _ => .sbbA

/-- Row Ax of the opcode map (R87), by low nibble; `v` the byte after the opcode, `w` the word after it. -/
def decodeRowA (lo : Nat) (_v : Byte) (_w : Word) : Instr :=
  match lo with
  | 0x0 => .anaB
  | 0x1 => .anaC
  | 0x2 => .anaD
  | 0x3 => .anaE
  | 0x4 => .anaH
  | 0x5 => .anaL
  | 0x6 => .anaM
  | 0x7 => .anaA
  | 0x8 => .xraB
  | 0x9 => .xraC
  | 0xA => .xraD
  | 0xB => .xraE
  | 0xC => .xraH
  | 0xD => .xraL
  | 0xE => .xraM
  | _ => .xraA

/-- Row Bx of the opcode map (R87), by low nibble; `v` the byte after the opcode, `w` the word after it. -/
def decodeRowB (lo : Nat) (_v : Byte) (_w : Word) : Instr :=
  match lo with
  | 0x0 => .oraB
  | 0x1 => .oraC
  | 0x2 => .oraD
  | 0x3 => .oraE
  | 0x4 => .oraH
  | 0x5 => .oraL
  | 0x6 => .oraM
  | 0x7 => .oraA
  | 0x8 => .cmpB
  | 0x9 => .cmpC
  | 0xA => .cmpD
  | 0xB => .cmpE
  | 0xC => .cmpH
  | 0xD => .cmpL
  | 0xE => .cmpM
  | _ => .cmpA

/-- Row Cx of the opcode map (R87), by low nibble; `v` the byte after the opcode, `w` the word after it. -/
def decodeRowC (lo : Nat) (v : Byte) (w : Word) : Instr :=
  match lo with
  | 0x0 => .rnz
  | 0x1 => .popB
  | 0x2 => .jnz w
  | 0x3 => .jmp w
  | 0x4 => .cnz w
  | 0x5 => .pushB
  | 0x6 => .adi v
  | 0x7 => .rst0
  | 0x8 => .rz
  | 0x9 => .ret
  | 0xA => .jz w
  | 0xB => .jmpCB w
  | 0xC => .cz w
  | 0xD => .call w
  | 0xE => .aci v
  | _ => .rst1

/-- Row Dx of the opcode map (R87), by low nibble; `v` the byte after the opcode, `w` the word after it. -/
def decodeRowD (lo : Nat) (v : Byte) (w : Word) : Instr :=
  match lo with
  | 0x0 => .rnc
  | 0x1 => .popD
  | 0x2 => .jnc w
  | 0x3 => .outPort v
  | 0x4 => .cnc w
  | 0x5 => .pushD
  | 0x6 => .sui v
  | 0x7 => .rst2
  | 0x8 => .rc
  | 0x9 => .retD9
  | 0xA => .jc w
  | 0xB => .inPort v
  | 0xC => .cc w
  | 0xD => .callDD w
  | 0xE => .sbi v
  | _ => .rst3

/-- Row Ex of the opcode map (R87), by low nibble; `v` the byte after the opcode, `w` the word after it. -/
def decodeRowE (lo : Nat) (v : Byte) (w : Word) : Instr :=
  match lo with
  | 0x0 => .rpo
  | 0x1 => .popH
  | 0x2 => .jpo w
  | 0x3 => .xthl
  | 0x4 => .cpo w
  | 0x5 => .pushH
  | 0x6 => .ani v
  | 0x7 => .rst4
  | 0x8 => .rpe
  | 0x9 => .pchl
  | 0xA => .jpe w
  | 0xB => .xchg
  | 0xC => .cpe w
  | 0xD => .callED w
  | 0xE => .xri v
  | _ => .rst5

/-- Row Fx of the opcode map (R87), by low nibble; `v` the byte after the opcode, `w` the word after it. -/
def decodeRowF (lo : Nat) (v : Byte) (w : Word) : Instr :=
  match lo with
  | 0x0 => .rp
  | 0x1 => .popPsw
  | 0x2 => .jp w
  | 0x3 => .di
  | 0x4 => .cp w
  | 0x5 => .pushPsw
  | 0x6 => .ori v
  | 0x7 => .rst6
  | 0x8 => .rm
  | 0x9 => .sphl
  | 0xA => .jm w
  | 0xB => .ei
  | 0xC => .cm w
  | 0xD => .callFD w
  | 0xE => .cpi v
  | _ => .rst7

/-- The instruction with opcode byte `op` and following bytes `b1`, `b2` (those its length does not reach are not
looked at): total (R90), the operand word low byte first (R54, R86). -/
def decode (op b1 b2 : Byte) : Instr :=
  let lo := op.toNat % 16
  let w := joinBytes b2 b1
  match op.toNat / 16 with
  | 0x0 => decodeRow0 lo b1 w
  | 0x1 => decodeRow1 lo b1 w
  | 0x2 => decodeRow2 lo b1 w
  | 0x3 => decodeRow3 lo b1 w
  | 0x4 => decodeRow4 lo b1 w
  | 0x5 => decodeRow5 lo b1 w
  | 0x6 => decodeRow6 lo b1 w
  | 0x7 => decodeRow7 lo b1 w
  | 0x8 => decodeRow8 lo b1 w
  | 0x9 => decodeRow9 lo b1 w
  | 0xA => decodeRowA lo b1 w
  | 0xB => decodeRowB lo b1 w
  | 0xC => decodeRowC lo b1 w
  | 0xD => decodeRowD lo b1 w
  | 0xE => decodeRowE lo b1 w
  | _ => decodeRowF lo b1 w

/-- Why a list of bytes is not an instruction: too few bytes, and nothing else (R90). -/
inductive DecodeError where
  /-- The list is empty. -/
  | noOpcode
  /-- The opcode asks for `length` bytes and the list holds fewer. -/
  | truncated (op : Byte) (length : Nat)
  deriving DecidableEq, Repr

/-- The first instruction of a list of bytes and the bytes after it. -/
def decodeBytes : List Byte → Except DecodeError (Instr × List Byte)
  | [] => .error .noOpcode
  | op :: rest =>
    if rest.length + 1 < opcodeLength op then .error (.truncated op (opcodeLength op))
    else .ok (decode op (rest.getD 0 0) (rest.getD 1 0), rest.drop (opcodeLength op - 1))

/-- The bytes of an instruction, opcode first, an operand word low byte first (R54, R87). -/
def encode : Instr → List Byte
  | .nop => [0x00]
  | .lxiB w => [0x01, loByte w, hiByte w]
  | .staxB => [0x02]
  | .inxB => [0x03]
  | .inrB => [0x04]
  | .dcrB => [0x05]
  | .mviB d => [0x06, d]
  | .rlc => [0x07]
  | .nop08 => [0x08]
  | .dadB => [0x09]
  | .ldaxB => [0x0A]
  | .dcxB => [0x0B]
  | .inrC => [0x0C]
  | .dcrC => [0x0D]
  | .mviC d => [0x0E, d]
  | .rrc => [0x0F]
  | .nop10 => [0x10]
  | .lxiD w => [0x11, loByte w, hiByte w]
  | .staxD => [0x12]
  | .inxD => [0x13]
  | .inrD => [0x14]
  | .dcrD => [0x15]
  | .mviD d => [0x16, d]
  | .ral => [0x17]
  | .nop18 => [0x18]
  | .dadD => [0x19]
  | .ldaxD => [0x1A]
  | .dcxD => [0x1B]
  | .inrE => [0x1C]
  | .dcrE => [0x1D]
  | .mviE d => [0x1E, d]
  | .rar => [0x1F]
  | .nop20 => [0x20]
  | .lxiH w => [0x21, loByte w, hiByte w]
  | .shld a => [0x22, loByte a, hiByte a]
  | .inxH => [0x23]
  | .inrH => [0x24]
  | .dcrH => [0x25]
  | .mviH d => [0x26, d]
  | .daa => [0x27]
  | .nop28 => [0x28]
  | .dadH => [0x29]
  | .lhld a => [0x2A, loByte a, hiByte a]
  | .dcxH => [0x2B]
  | .inrL => [0x2C]
  | .dcrL => [0x2D]
  | .mviL d => [0x2E, d]
  | .cma => [0x2F]
  | .nop30 => [0x30]
  | .lxiSp w => [0x31, loByte w, hiByte w]
  | .sta a => [0x32, loByte a, hiByte a]
  | .inxSp => [0x33]
  | .inrM => [0x34]
  | .dcrM => [0x35]
  | .mviM d => [0x36, d]
  | .stc => [0x37]
  | .nop38 => [0x38]
  | .dadSp => [0x39]
  | .lda a => [0x3A, loByte a, hiByte a]
  | .dcxSp => [0x3B]
  | .inrA => [0x3C]
  | .dcrA => [0x3D]
  | .mviA d => [0x3E, d]
  | .cmc => [0x3F]
  | .movBB => [0x40]
  | .movBC => [0x41]
  | .movBD => [0x42]
  | .movBE => [0x43]
  | .movBH => [0x44]
  | .movBL => [0x45]
  | .movBM => [0x46]
  | .movBA => [0x47]
  | .movCB => [0x48]
  | .movCC => [0x49]
  | .movCD => [0x4A]
  | .movCE => [0x4B]
  | .movCH => [0x4C]
  | .movCL => [0x4D]
  | .movCM => [0x4E]
  | .movCA => [0x4F]
  | .movDB => [0x50]
  | .movDC => [0x51]
  | .movDD => [0x52]
  | .movDE => [0x53]
  | .movDH => [0x54]
  | .movDL => [0x55]
  | .movDM => [0x56]
  | .movDA => [0x57]
  | .movEB => [0x58]
  | .movEC => [0x59]
  | .movED => [0x5A]
  | .movEE => [0x5B]
  | .movEH => [0x5C]
  | .movEL => [0x5D]
  | .movEM => [0x5E]
  | .movEA => [0x5F]
  | .movHB => [0x60]
  | .movHC => [0x61]
  | .movHD => [0x62]
  | .movHE => [0x63]
  | .movHH => [0x64]
  | .movHL => [0x65]
  | .movHM => [0x66]
  | .movHA => [0x67]
  | .movLB => [0x68]
  | .movLC => [0x69]
  | .movLD => [0x6A]
  | .movLE => [0x6B]
  | .movLH => [0x6C]
  | .movLL => [0x6D]
  | .movLM => [0x6E]
  | .movLA => [0x6F]
  | .movMB => [0x70]
  | .movMC => [0x71]
  | .movMD => [0x72]
  | .movME => [0x73]
  | .movMH => [0x74]
  | .movML => [0x75]
  | .hlt => [0x76]
  | .movMA => [0x77]
  | .movAB => [0x78]
  | .movAC => [0x79]
  | .movAD => [0x7A]
  | .movAE => [0x7B]
  | .movAH => [0x7C]
  | .movAL => [0x7D]
  | .movAM => [0x7E]
  | .movAA => [0x7F]
  | .addB => [0x80]
  | .addC => [0x81]
  | .addD => [0x82]
  | .addE => [0x83]
  | .addH => [0x84]
  | .addL => [0x85]
  | .addM => [0x86]
  | .addA => [0x87]
  | .adcB => [0x88]
  | .adcC => [0x89]
  | .adcD => [0x8A]
  | .adcE => [0x8B]
  | .adcH => [0x8C]
  | .adcL => [0x8D]
  | .adcM => [0x8E]
  | .adcA => [0x8F]
  | .subB => [0x90]
  | .subC => [0x91]
  | .subD => [0x92]
  | .subE => [0x93]
  | .subH => [0x94]
  | .subL => [0x95]
  | .subM => [0x96]
  | .subA => [0x97]
  | .sbbB => [0x98]
  | .sbbC => [0x99]
  | .sbbD => [0x9A]
  | .sbbE => [0x9B]
  | .sbbH => [0x9C]
  | .sbbL => [0x9D]
  | .sbbM => [0x9E]
  | .sbbA => [0x9F]
  | .anaB => [0xA0]
  | .anaC => [0xA1]
  | .anaD => [0xA2]
  | .anaE => [0xA3]
  | .anaH => [0xA4]
  | .anaL => [0xA5]
  | .anaM => [0xA6]
  | .anaA => [0xA7]
  | .xraB => [0xA8]
  | .xraC => [0xA9]
  | .xraD => [0xAA]
  | .xraE => [0xAB]
  | .xraH => [0xAC]
  | .xraL => [0xAD]
  | .xraM => [0xAE]
  | .xraA => [0xAF]
  | .oraB => [0xB0]
  | .oraC => [0xB1]
  | .oraD => [0xB2]
  | .oraE => [0xB3]
  | .oraH => [0xB4]
  | .oraL => [0xB5]
  | .oraM => [0xB6]
  | .oraA => [0xB7]
  | .cmpB => [0xB8]
  | .cmpC => [0xB9]
  | .cmpD => [0xBA]
  | .cmpE => [0xBB]
  | .cmpH => [0xBC]
  | .cmpL => [0xBD]
  | .cmpM => [0xBE]
  | .cmpA => [0xBF]
  | .rnz => [0xC0]
  | .popB => [0xC1]
  | .jnz a => [0xC2, loByte a, hiByte a]
  | .jmp a => [0xC3, loByte a, hiByte a]
  | .cnz a => [0xC4, loByte a, hiByte a]
  | .pushB => [0xC5]
  | .adi d => [0xC6, d]
  | .rst0 => [0xC7]
  | .rz => [0xC8]
  | .ret => [0xC9]
  | .jz a => [0xCA, loByte a, hiByte a]
  | .jmpCB a => [0xCB, loByte a, hiByte a]
  | .cz a => [0xCC, loByte a, hiByte a]
  | .call a => [0xCD, loByte a, hiByte a]
  | .aci d => [0xCE, d]
  | .rst1 => [0xCF]
  | .rnc => [0xD0]
  | .popD => [0xD1]
  | .jnc a => [0xD2, loByte a, hiByte a]
  | .outPort p => [0xD3, p]
  | .cnc a => [0xD4, loByte a, hiByte a]
  | .pushD => [0xD5]
  | .sui d => [0xD6, d]
  | .rst2 => [0xD7]
  | .rc => [0xD8]
  | .retD9 => [0xD9]
  | .jc a => [0xDA, loByte a, hiByte a]
  | .inPort p => [0xDB, p]
  | .cc a => [0xDC, loByte a, hiByte a]
  | .callDD a => [0xDD, loByte a, hiByte a]
  | .sbi d => [0xDE, d]
  | .rst3 => [0xDF]
  | .rpo => [0xE0]
  | .popH => [0xE1]
  | .jpo a => [0xE2, loByte a, hiByte a]
  | .xthl => [0xE3]
  | .cpo a => [0xE4, loByte a, hiByte a]
  | .pushH => [0xE5]
  | .ani d => [0xE6, d]
  | .rst4 => [0xE7]
  | .rpe => [0xE8]
  | .pchl => [0xE9]
  | .jpe a => [0xEA, loByte a, hiByte a]
  | .xchg => [0xEB]
  | .cpe a => [0xEC, loByte a, hiByte a]
  | .callED a => [0xED, loByte a, hiByte a]
  | .xri d => [0xEE, d]
  | .rst5 => [0xEF]
  | .rp => [0xF0]
  | .popPsw => [0xF1]
  | .jp a => [0xF2, loByte a, hiByte a]
  | .di => [0xF3]
  | .cp a => [0xF4, loByte a, hiByte a]
  | .pushPsw => [0xF5]
  | .ori d => [0xF6, d]
  | .rst6 => [0xF7]
  | .rm => [0xF8]
  | .sphl => [0xF9]
  | .jm a => [0xFA, loByte a, hiByte a]
  | .ei => [0xFB]
  | .cm a => [0xFC, loByte a, hiByte a]
  | .callFD a => [0xFD, loByte a, hiByte a]
  | .cpi d => [0xFE, d]
  | .rst7 => [0xFF]

/-- The opcode byte of an instruction. -/
def Instr.opcode (i : Instr) : Byte := (encode i).headD 0

/-- The 3-bit code of a register (R84). -/
def Reg.code : Reg → BitVec 3
  | .b => 0
  | .c => 1
  | .d => 2
  | .e => 3
  | .h => 4
  | .l => 5
  | .a => 7

/-- The 3-bit code of an 8-bit operand, 6 for M (R84). -/
def Operand.code : Operand → BitVec 3
  | .reg r => r.code
  | .m => 6

/-- The 2-bit code of a register pair (R84). -/
def RegPair.code : RegPair → BitVec 2
  | .bc => 0
  | .de => 1
  | .hl => 2

/-- The high register of a pair (10_state.md R21). -/
def RegPair.high : RegPair → Reg
  | .bc => .b
  | .de => .d
  | .hl => .h

/-- The low register of a pair (10_state.md R21). -/
def RegPair.low : RegPair → Reg
  | .bc => .c
  | .de => .e
  | .hl => .l

/-- The 2-bit code of a 16-bit place, 3 for SP (R84). -/
def Pair.code : Pair → BitVec 2
  | .rp p => p.code
  | .sp => 3

/-- The 3-bit code of a condition (R85). -/
def Cond.code : Cond → BitVec 3
  | .nz => 0
  | .z => 1
  | .nc => 2
  | .c => 3
  | .po => 4
  | .pe => 5
  | .p => 6
  | .m => 7

/-- The 3-bit code of an ALU operation (41_alu8.md R126). -/
def AluOp.code : AluOp → BitVec 3
  | .add => 0
  | .adc => 1
  | .sub => 2
  | .sbb => 3
  | .ana => 4
  | .xra => 5
  | .ora => 6
  | .cmp => 7

/-- Byte `k` of an instruction of `nbits` bits held in the number `w`, first byte in the lowest bits, every bit from
`nbits` on zero. -/
def tableByte (nbits w k : Nat) : Byte := BitVec.ofNat 8 (w % 2 ^ nbits / 256 ^ k)

/-- What the decoder reads from an instruction numbered as spec/opcode_table.json numbers it; it refuses no byte (R90). -/
def decodeTableWord (nbits w : Nat) : Option Instr :=
  some (decode (tableByte nbits w 0) (tableByte nbits w 1) (tableByte nbits w 2))

end Sys2Proof
end

