-- ==== Sys2Proof/Config.lean ====
section
/-! DEFINITION. What is fixed for one machine (00_scope.md R5, 92_eei_decisions.md): the constants the source gives,
the values the spec leaves open as free constants with no body, the two switches the spec names, and the launch
parameters. -/

namespace Sys2Proof

/-- The six input setters of the host (46_io_ports.md R221). -/
inductive Input where
  | coin
  | start1
  | start2
  | left
  | right
  | fire
  deriving DecidableEq, Repr

/-- `INT_SCHED`: who may raise interrupt requests and when (60_exceptions.md R247, R248; D17). -/
inductive IntSched where
  | frame
  | anyBoundary
  deriving DecidableEq, Repr

/-- The two readings of AuxCarry after a subtraction, `SUB_AC_SENSE` (92_eei_decisions.md D6). -/
inductive SubAcSense where
  | noBorrow
  | borrow
  deriving DecidableEq, Repr

/-- What port 0 always reads: bits 1 and 2 set, the rest clear (46_io_ports.md R222). -/
def Config.port0Value : Byte := 0x06#8

/-- `HALF_FRAME_BUDGET`, the floor of one half-frame in cycles (60_exceptions.md R247). -/
def Config.halfFrameBudget : Nat := 16667

/-- `SUB_AC_SENSE` at the spec's default (DEDUCED from its decision D6; log 10). -/
def Config.subAcSense : SubAcSense := .noBorrow

/-- `DAA_MASK_BEFORE_COMPARE` at the spec's default (D9; log 11). -/
def Config.daaMaskBeforeCompare : Bool := false

/-- FREE VALUE: where inside its bounds an opcode's cycle cost lies (`CYC`, D16; log 8). -/
opaque Config.cycleFree : Byte → Nat

/-- FREE VALUE: the bound between the register and the memory costs of MOV (argument 0) and of ALU operation k
(argument k+1) (70_reset_and_hazards.md R284, D16; log 8). -/
opaque Config.cycleSplit : Nat → Nat

/-- FREE VALUE: the bit mask each input setter drives in port 1 (46_io_ports.md R221, D21; log 9). -/
opaque Config.inputMask : Input → Byte

/-- The launch parameters of 00_scope.md R5: the four ROM images, each 2048 bytes, the bytes of the rest of memory, the
port-1 and port-2 bytes, the shifter, and `INT_SCHED`. -/
structure Launch where
  romImage : BitVec 2 → BitVec 11 → Byte
  ram0 : Word → Byte
  port1Reset : Byte
  port2Dip : Byte
  shiftDataReset : Word
  shiftOffsetReset : BitVec 3
  intSched : IntSched

end Sys2Proof
end

