-- ==== Sys2Proof/Machine/State.lean ====
section
/-! DEFINITION. The state of the machine as plain data (10_state.md), the reasons a step could stop, and the state right
after reset (10_state.md R45, 70_reset_and_hazards.md R271). -/

namespace Sys2Proof.Machine

/-- The five flags: Sign, Zero, AuxCarry, Parity, Carry (10_state.md R27). -/
structure Flags where
  s : Bool
  z : Bool
  ac : Bool
  p : Bool
  cy : Bool
  deriving DecidableEq, Repr

/-- The phase of the frame scheduler: which half of a frame is running (R41). -/
inductive Half where
  | first
  | second
  deriving DecidableEq, Repr

/-- A turn of the schedule: the machine's own, or one action of the host between two steps (20_memory.md R64). An
interrupt vector is three bits wide, so no other vector can be written (60_exceptions.md R245). -/
inductive Turn where
  | machine
  | request (v : BitVec 3)
  | setInput (input : Input) (on : Bool)
  | resetCpu
  deriving DecidableEq, Repr

/-- Memory as (address, byte) pairs in the canonical form `Memory.wf`; what an unlisted address reads as is
`Memory.unlisted`. -/
abbrev Memory := List Host.Cell

/-- The machine raises no fault of any kind (60_exceptions.md R241), so there is no constructor. -/
inductive Fault : Type
  deriving DecidableEq, Repr

/-- The reasons to give no meaning. -/
inductive Refusal where
  /-- Raised by an arm of `exec` for an instruction that has no meaning yet; no arm raises it. Safe: the run stops. -/
  | notModelled (mnemonic : String)
  deriving DecidableEq, Repr

/-- Everything the spec gives the machine, and `script`, the model's own. -/
structure State where
  /-- General registers (R20). -/
  b : Byte
  c : Byte
  d : Byte
  e : Byte
  h : Byte
  l : Byte
  /-- The accumulator (R20). -/
  a : Byte
  /-- Program counter: between steps the address of the next opcode (R24). -/
  pc : Word
  /-- Stack pointer (R26). -/
  sp : Word
  /-- The flags (R27). -/
  flags : Flags
  /-- Set by HLT (R34). -/
  halted : Bool
  /-- The interrupt enable (R35). -/
  ie : Bool
  /-- The 65536 bytes of memory (R42). -/
  mem : Memory
  /-- The live input bits (R37). -/
  port1 : Byte
  /-- The DIP-switch byte, never written (R37). -/
  port2 : Byte
  /-- The shifter's data (R38). -/
  shiftData : Word
  /-- The shifter's offset (R39). -/
  shiftOffset : BitVec 3
  /-- `INT_SCHED`, never written (00_scope.md R5). -/
  intSched : IntSched
  /-- The frame scheduler's cycle accumulator (R41). -/
  cycleAcc : Nat
  /-- The frame scheduler's phase (R41). -/
  half : Half
  /-- THE MODEL'S OWN: the coming turns, oldest first; when it is empty every turn is the machine's (log 6). -/
  script : List Turn
  deriving DecidableEq, Repr

/-- What a step or a meaning answers. -/
abbrev Result := Host.Outcome State Fault Refusal

/-- The machine right after reset (R45, R271). The spec gives no value for memory, `port1`, `port2`, the shifter and
`intSched`: those here are the model's choice (DESIGN CHOICE, logs 1 to 5), and the empty `script` too (log 6). -/
def State.reset : State where
  b := 0
  c := 0
  d := 0
  e := 0
  h := 0
  l := 0
  a := 0
  pc := 0
  sp := 0
  flags := { s := false, z := false, ac := false, p := false, cy := false }
  halted := false
  ie := true
  mem := []
  port1 := 0
  port2 := 0
  shiftData := 0
  shiftOffset := 0
  intSched := .anyBoundary
  cycleAcc := 0
  half := .first
  script := []

end Sys2Proof.Machine
end

