-- ==== Sys2Proof/Machine/Cycles.lean ====
section
/-! DEFINITION. The cycle table `CYC` (70_reset_and_hazards.md R284 to R286): open but for three entries, bounds and
comparisons. A table is built from two free functions so that every choice of them keeps the constraints of R284 and
every table that keeps them is some choice (log 8); the machine's own takes the free constants of Config. -/

namespace Sys2Proof.Machine

/-- The byte whose instruction an opcode byte copies: itself, unless it is an alias (30_encoding.md R89). -/
def aliasTarget (op : Byte) : Byte :=
  if op ∈ ([0x08, 0x10, 0x18, 0x20, 0x28, 0x30, 0x38] : List Byte) then 0x00
  else if op = 0xCB then 0xC3
  else if op = 0xD9 then 0xC9
  else if op ∈ ([0xDD, 0xED, 0xFD] : List Byte) then 0xCD
  else op

/-- A number between `lo` and `hi`, chosen by `n`. -/
def between (lo hi n : Nat) : Nat := lo + n % (hi - lo + 1)

/-- The opcodes whose memory variants cost strictly more: MOV, and the ALU with a register or M (R284). -/
def hasMemoryVariant (op : Byte) : Bool := (op.toNat / 64 == 1 && op != 0x76) || op.toNat / 64 == 2

/-- Which comparison of R284 an opcode is in: 0 for MOV, k+1 for ALU operation k. -/
def costGroup (op : Byte) : Nat := if op.toNat / 64 = 1 then 0 else op.toNat / 8 % 8 + 1

/-- An opcode of MOV or of the ALU with M as an operand. -/
def usesM (op : Byte) : Bool := op.toNat % 8 == 6 || (op.toNat / 64 == 1 && op.toNat / 8 % 8 == 6)

/-- The cost of an opcode that is no alias: the source's three entries, and otherwise a choice inside the bounds, a
register variant at most the group's split and a memory variant above it. -/
def costOf (free : Byte → Nat) (split : Nat → Nat) (op : Byte) : Nat :=
  if op = 0x00 then 4
  else if op = 0xCD then 17
  else if op = 0x34 then 10
  else if hasMemoryVariant op then
    if usesM op then between (between 4 17 (split (costGroup op)) + 1) 18 (free op)
    else between 4 (between 4 17 (split (costGroup op))) (free op)
  else between 4 18 (free op)

/-- A cycle table: an alias byte costs what it copies costs (R285, 30_encoding.md R89). -/
def cycleTable (free : Byte → Nat) (split : Nat → Nat) (op : Byte) : Nat := costOf free split (aliasTarget op)

/-- `CYC` of this machine. -/
def cyclesOf (op : Byte) : Nat := cycleTable Config.cycleFree Config.cycleSplit op

/-! ## The suggested table (R285) -/

/-- The published cycle costs, sixteen opcodes a row, conditional calls at 11 and conditional returns at 5: a table a
claim may name as a premise (70_reset_and_hazards.md R285, R286); nothing here computes with it. -/
def suggestedRow : Nat → List Nat
  | 0x0 => [4, 10, 7, 5, 5, 5, 7, 4, 4, 10, 7, 5, 5, 5, 7, 4]
  | 0x1 => [4, 10, 7, 5, 5, 5, 7, 4, 4, 10, 7, 5, 5, 5, 7, 4]
  | 0x2 => [4, 10, 16, 5, 5, 5, 7, 4, 4, 10, 16, 5, 5, 5, 7, 4]
  | 0x3 => [4, 10, 13, 5, 10, 10, 10, 4, 4, 10, 13, 5, 5, 5, 7, 4]
  | 0x4 => [5, 5, 5, 5, 5, 5, 7, 5, 5, 5, 5, 5, 5, 5, 7, 5]
  | 0x5 => [5, 5, 5, 5, 5, 5, 7, 5, 5, 5, 5, 5, 5, 5, 7, 5]
  | 0x6 => [5, 5, 5, 5, 5, 5, 7, 5, 5, 5, 5, 5, 5, 5, 7, 5]
  | 0x7 => [7, 7, 7, 7, 7, 7, 7, 7, 5, 5, 5, 5, 5, 5, 7, 5]
  | 0x8 => [4, 4, 4, 4, 4, 4, 7, 4, 4, 4, 4, 4, 4, 4, 7, 4]
  | 0x9 => [4, 4, 4, 4, 4, 4, 7, 4, 4, 4, 4, 4, 4, 4, 7, 4]
  | 0xA => [4, 4, 4, 4, 4, 4, 7, 4, 4, 4, 4, 4, 4, 4, 7, 4]
  | 0xB => [4, 4, 4, 4, 4, 4, 7, 4, 4, 4, 4, 4, 4, 4, 7, 4]
  | 0xC => [5, 10, 10, 10, 11, 11, 7, 11, 5, 10, 10, 10, 11, 17, 7, 11]
  | 0xD => [5, 10, 10, 10, 11, 11, 7, 11, 5, 10, 10, 10, 11, 17, 7, 11]
  | 0xE => [5, 10, 10, 18, 11, 11, 7, 11, 5, 5, 10, 4, 11, 17, 7, 11]
  | _ => [5, 10, 10, 4, 11, 11, 7, 11, 5, 5, 10, 4, 11, 17, 7, 11]

/-- The suggested cost of an opcode byte (R285). -/
def suggestedCycles (op : Byte) : Nat := (suggestedRow (op.toNat / 16)).getD (op.toNat % 16) 0

end Sys2Proof.Machine
end

