-- ==== Sys2Proof/Machine/Ops.lean ====
section
/-! DEFINITION. The named operations over memory, registers, the stack, the ports and the host's side: every meaning is
written over these. Taking an interrupt is `State.requestInterrupt`; the return from it is the pop of RET (60_exceptions.md
R254). -/

namespace Sys2Proof.Machine

/-! ## Memory (20_memory.md) -/

/-- What an address that is not listed reads as (DESIGN CHOICE: the spec leaves ROM and RAM0 open; log 1). -/
def Memory.unlisted : Byte := 0

/-- The canonical form: addresses strictly rising and below 65536, no entry equal to what an unlisted address reads as. -/
abbrev Memory.wf (m : Memory) : Prop :=
  m.Pairwise (fun x y => x.1 < y.1) ∧ ∀ c ∈ m, c.1 < 65536 ∧ c.2 ≠ Memory.unlisted

/-- The byte at an address (R50). -/
def Memory.read : Memory → Nat → Byte
  | [], _ => Memory.unlisted
  | c :: rest, k => if c.1 = k then c.2 else Memory.read rest k

/-- The list with the pair for `k` put at its place. -/
def Memory.insert : Memory → Nat → Byte → Memory
  | [], k, v => [(k, v)]
  | c :: rest, k, v =>
    if k < c.1 then (k, v) :: c :: rest
    else if c.1 = k then (k, v) :: rest
    else c :: Memory.insert rest k v

/-- The list with no pair for `k`. -/
def Memory.erase (m : Memory) (k : Nat) : Memory := m.filter (fun c => c.1 != k)

/-- Write one byte (R51), keeping the canonical form: the unlisted value is not listed. -/
def Memory.write (m : Memory) (k : Nat) (v : Byte) : Memory :=
  if v = Memory.unlisted then Memory.erase m k else Memory.insert m k v

/-- `MemRead(a, 1)` (00_scope.md R9, 20_memory.md R50). -/
def State.byteAt (s : State) (a : Word) : Byte := Memory.read s.mem a.toNat

/-- `MemWrite(a, 1, v)` (R9, R51): it succeeds at every address. -/
def State.storeByte (s : State) (a : Word) (v : Byte) : State := { s with mem := Memory.write s.mem a.toNat v }

/-- `MemRead(a, 2)`: the byte at the lower address is the low byte; the second address wraps (R9, R53). -/
def State.wordAt (s : State) (a : Word) : Word := joinBytes (s.byteAt (a + 1)) (s.byteAt a)

/-- `MemWrite(a, 2, w)` (R9, R53). -/
def State.storeWord (s : State) (a w : Word) : State := (s.storeByte a (loByte w)).storeByte (a + 1) (hiByte w)

/-! ## Registers and pairs (10_state.md) -/

/-- The value of a general register (R20). -/
def State.reg (s : State) : Reg → Byte
  | .b => s.b
  | .c => s.c
  | .d => s.d
  | .e => s.e
  | .h => s.h
  | .l => s.l
  | .a => s.a

/-- Write a general register; none is hard-wired (R20). -/
def State.setReg (s : State) (r : Reg) (v : Byte) : State :=
  match r with
  | .b => { s with b := v }
  | .c => { s with c := v }
  | .d => { s with d := v }
  | .e => { s with e := v }
  | .h => { s with h := v }
  | .l => { s with l := v }
  | .a => { s with a := v }

/-- A register pair as a word, high register first (R21). -/
def State.rp (s : State) (p : RegPair) : Word := joinBytes (s.reg p.high) (s.reg p.low)

/-- Write both registers of a pair (R21). -/
def State.setRp (s : State) (p : RegPair) (w : Word) : State :=
  (s.setReg p.high (hiByte w)).setReg p.low (loByte w)

/-- The 16-bit place of a pair code: a register pair or SP (00_scope.md R8). -/
def State.pair (s : State) : Pair → Word
  | .rp p => s.rp p
  | .sp => s.sp

/-- Write the 16-bit place of a pair code (R8). -/
def State.setPair (s : State) (p : Pair) (w : Word) : State :=
  match p with
  | .rp q => s.setRp q w
  | .sp => { s with sp := w }

/-- HL, the memory pointer (R21). -/
def State.hl (s : State) : Word := s.rp .hl

/-! ## Fetch and stack (00_scope.md R10) -/

/-- The instruction at PC: opcode byte and operand bytes read at PC, PC+1, PC+2, each modulo 65536. A byte the length
does not reach is read without effect (20_memory.md R58; log 13). -/
def State.fetched (s : State) : Instr := decode (s.byteAt s.pc) (s.byteAt (s.pc + 1)) (s.byteAt (s.pc + 2))

/-- PC moved past all bytes of the instruction at PC (10_state.md R24, R25). -/
def State.pastInstr (s : State) : State := { s with pc := s.pc + BitVec.ofNat 16 (opcodeLength (s.byteAt s.pc)) }

/-- `Push16(w)`: high byte at SP-1, low byte at SP-2, then SP down by two (R10). -/
def State.push16 (s : State) (w : Word) : State :=
  { (s.storeByte (s.sp - 1) (hiByte w)).storeByte (s.sp - 2) (loByte w) with sp := s.sp - 2 }

/-- The word `Pop16()` yields: low byte at SP, high byte at SP+1 (R10). -/
def State.stackTop (s : State) : Word := s.wordAt s.sp

/-- The state `Pop16()` leaves: SP up by two; the bytes stay (R10, 45_stack.md R201). -/
def State.pop16 (s : State) : State := { s with sp := s.sp + 2 }

/-! ## The port mux and the shifter (46_io_ports.md) -/

/-- The shifter's output: `(shiftData >> (8 - shiftOffset)) & 0xFF` (R216). -/
def shifterOutput (data : Word) (offset : BitVec 3) : Byte := (data >>> (8 - offset.toNat)).setWidth 8

/-- The shifter's data after a byte is written: the new byte high, the old high byte low (R218). -/
def shifterInput (data : Word) (v : Byte) : Word := joinBytes v (hiByte data)

/-- `PortRead(p)` (R213). Port 0 is hard-wired. -/
def State.portRead (s : State) (p : Byte) : Byte :=
  match p.toNat with
  | 0 => Config.port0Value
  | 1 => s.port1
  | 2 => s.port2
  | 3 => shifterOutput s.shiftData s.shiftOffset
  | _ => 0

/-- `PortWrite(p, v)` (R215): port 2 takes bits 2:0 as the offset, port 4 feeds the shifter, the rest ignore. -/
def State.portWrite (s : State) (p v : Byte) : State :=
  match p.toNat with
  | 2 => { s with shiftOffset := v.setWidth 3 }
  | 4 => { s with shiftData := shifterInput s.shiftData v }
  | _ => s

/-! ## The host's actions (60_exceptions.md, 70_reset_and_hazards.md) -/

/-- The entry address of a restart or interrupt vector, `8 * v` (20_memory.md R59). -/
def vectorAddress (v : BitVec 3) : Word := BitVec.ofNat 16 (8 * v.toNat)

/-- `requestInterrupt(v)`: TAKING AN INTERRUPT (60_exceptions.md R243). With IE false nothing happens and nothing is
remembered; else IE and `halted` are cleared, PC is pushed, PC goes to `8 * v`. -/
def State.requestInterrupt (s : State) (v : BitVec 3) : State :=
  if s.ie then { { s with ie := false, halted := false }.push16 s.pc with pc := vectorAddress v } else s

/-- One bit mask of port 1 driven on or off (46_io_ports.md R221). -/
def driveBits (mask : Byte) (on : Bool) (port : Byte) : Byte := if on then port ||| mask else port &&& ~~~mask

/-- An input setter (R221). -/
def State.setInput (s : State) (input : Input) (on : Bool) : State :=
  { s with port1 := driveBits (Config.inputMask input) on s.port1 }

/-- `reset()` as an action of the host: the interpreter's state alone (70_reset_and_hazards.md R271, R272). -/
def State.resetCpu (s : State) : State :=
  { State.reset with
    mem := s.mem
    port1 := s.port1
    port2 := s.port2
    shiftData := s.shiftData
    shiftOffset := s.shiftOffset
    intSched := s.intSched
    cycleAcc := s.cycleAcc
    half := s.half
    script := s.script }

/-! ## The frame scheduler (60_exceptions.md R247) -/

/-- The vector the scheduler requests at the end of a half-frame: 1, then 2 (R247). -/
def halfVector : Half → BitVec 3
  | .first => 1
  | .second => 2

/-- The half-frame after this one. -/
def nextHalf : Half → Half
  | .first => .second
  | .second => .first

/-- The scheduler's loop has reached its budget, so its next action is the request (R247). -/
def State.halfFrameOver (s : State) : Bool :=
  decide (s.intSched = .frame) && decide (Config.halfFrameBudget ≤ s.cycleAcc)

/-- The scheduler's request at the end of a half-frame; the accumulator restarts from 0 (R247, D23). -/
def State.endHalfFrame (s : State) : State :=
  { s.requestInterrupt (halfVector s.half) with cycleAcc := 0, half := nextHalf s.half }

/-- Add a step's reported cycles to the scheduler's accumulator; there is one only under `frame` (10_state.md R41). -/
def State.account (s : State) (cycles : Nat) : State :=
  if s.intSched = .frame then { s with cycleAcc := s.cycleAcc + cycles } else s

/-! ## Launch (00_scope.md R5, 20_memory.md R60) -/

/-- The byte a launch puts at an address: image k at k * 0x800 below 0x2000, `RAM0` above (R60). -/
def launchByte (p : Launch) (a : Word) : Byte :=
  if a.toNat < 0x2000 then p.romImage (a.extractLsb' 11 2) (a.extractLsb' 0 11) else p.ram0 a

/-- The first `n` cells of the memory with the given bytes, in canonical form. -/
def Memory.ofBytes (f : Word → Byte) : Nat → Memory
  | 0 => []
  | n + 1 =>
    let v := f (BitVec.ofNat 16 n)
    if v = Memory.unlisted then Memory.ofBytes f n else Memory.ofBytes f n ++ [(n, v)]

/-- The machine at launch: the interpreter reset, the rest from the launch parameters, and a schedule of turns
(10_state.md R45, 70_reset_and_hazards.md R272). -/
def State.launch (p : Launch) (script : List Turn) : State :=
  { State.reset with
    mem := Memory.ofBytes (launchByte p) 65536
    port1 := p.port1Reset
    port2 := p.port2Dip
    shiftData := p.shiftDataReset
    shiftOffset := p.shiftOffsetReset
    intSched := p.intSched
    script := script }

/-- Store the three bytes of a table-numbered instruction at PC and let the next turn be the interpreter's, running:
no host turn first, not halted, no half-frame to end (log 14). -/
def State.placeInstr (s : State) (nbits w : Nat) : State :=
  let t := ((s.storeByte s.pc (tableByte nbits w 0)).storeByte (s.pc + 1) (tableByte nbits w 1)).storeByte (s.pc + 2)
    (tableByte nbits w 2)
  { t with halted := false, script := [], cycleAcc := if s.halfFrameOver then 0 else s.cycleAcc }

end Sys2Proof.Machine
end

