-- ==== Sys2Proof/Machine/Flags.lean ====
section
/-! DEFINITION. Every flag computation: the helpers of 00_scope.md R12, the flag byte and the conditions of 10_state.md,
the arithmetic cores of 41_alu8.md, 42_incdec_pair.md and 43_accumulator.md. Sums are exact natural numbers, narrowed at
the end; each flag is a comparison on the exact value. -/

namespace Sys2Proof.Machine

/-! ## Helpers (00_scope.md R12) -/

/-- The number of 1 bits of a byte. -/
def onesCount (v : Byte) : Nat := (List.range 8).countP (fun k => v.getLsbD k)

/-- `ParityOf(v)`: the number of 1 bits is even (R12). -/
def parityOf (v : Byte) : Bool := onesCount v % 2 == 0

/-- `SignOf(v)`: bit 7 (R12). -/
def signOf (v : Byte) : Bool := v.getLsbD 7

/-- `ZeroOf(v)` (R12). -/
def zeroOf (v : Byte) : Bool := v == 0

/-- `SetSZP(v)` together with given AuxCarry and Carry (R12). -/
def szpFlags (v : Byte) (ac cy : Bool) : Flags where
  s := signOf v
  z := zeroOf v
  ac := ac
  p := parityOf v
  cy := cy

/-! ## The flag byte and the conditions (10_state.md) -/

/-- `FlagByte()` (R33). -/
def Flags.toByte (f : Flags) : Byte :=
  BitVec.ofNat 8 (f.s.toNat * 128 + f.z.toNat * 64 + f.ac.toNat * 16 + f.p.toNat * 4 + 2 + f.cy.toNat)

/-- `SetFlagsFromByte(f)`: bits 5, 3 and 1 are ignored (R33). -/
def Flags.ofByte (v : Byte) : Flags where
  s := v.getLsbD 7
  z := v.getLsbD 6
  ac := v.getLsbD 4
  p := v.getLsbD 2
  cy := v.getLsbD 0

/-- `Cond(c)` (R30). -/
def Flags.holds (f : Flags) : Cond → Bool
  | .nz => !f.z
  | .z => f.z
  | .nc => !f.cy
  | .c => f.cy
  | .po => !f.p
  | .pe => f.p
  | .p => !f.s
  | .m => f.s

/-! ## Addition and subtraction (41_alu8.md) -/

/-- The result of `Add8(a, b, cin)` (R121). -/
def add8 (a b : Byte) (cin : Bool) : Byte := BitVec.ofNat 8 (a.toNat + b.toNat + cin.toNat)

/-- The flags of `Add8(a, b, cin)`: CY the carry out of bit 7, AC the carry out of bit 3 (R121). -/
def addFlags (a b : Byte) (cin : Bool) : Flags :=
  szpFlags (add8 a b cin) (decide (a.toNat % 16 + b.toNat % 16 + cin.toNat > 15))
    (decide (a.toNat + b.toNat + cin.toNat > 255))

/-- The result of `Sub8(a, b, bin)`: the difference modulo 256 (R122). -/
def sub8 (a b : Byte) (bin : Bool) : Byte := BitVec.ofInt 8 ((a.toNat : Int) - b.toNat - bin.toNat)

/-- AuxCarry of a subtraction under a reading of D6: no borrow out of bit 3, or a borrow out of it (R122, D6). -/
def subAuxCarry (sense : SubAcSense) (a b : Byte) (bin : Bool) : Bool :=
  match sense with
  | .noBorrow => decide (a.toNat % 16 + (255 - b.toNat) % 16 + (1 - bin.toNat) > 15)
  | .borrow => decide (a.toNat % 16 < b.toNat % 16 + bin.toNat)

/-- The flags of `Sub8(a, b, bin)`: CY is the borrow out of bit 7 (R122). -/
def subFlags (a b : Byte) (bin : Bool) : Flags :=
  szpFlags (sub8 a b bin) (subAuxCarry Config.subAcSense a b bin) (decide (a.toNat < b.toNat + bin.toNat))

/-- The flags of AND, XOR and OR: Carry cleared, AuxCarry forced (R125). -/
def logicFlags (r : Byte) (ac : Bool) : Flags := szpFlags r ac false

/-! ## Increment, decrement, pair addition (42_incdec_pair.md) -/

/-- The flags of INR with result `r`; Carry stays (R151). -/
def incFlags (r : Byte) (old : Flags) : Flags := szpFlags r (decide (r.toNat % 16 = 0)) old.cy

/-- AuxCarry of DCR with result `r` under a reading of D6 (R151, D8). -/
def decAuxCarry (sense : SubAcSense) (r : Byte) : Bool :=
  match sense with
  | .noBorrow => decide (r.toNat % 16 ≠ 15)
  | .borrow => decide (r.toNat % 16 = 15)

/-- The flags of DCR with result `r`; Carry stays (R151). -/
def decFlags (r : Byte) (old : Flags) : Flags := szpFlags r (decAuxCarry Config.subAcSense r) old.cy

/-- Carry of DAD: the carry out of bit 15 (R159). -/
def dadCarry (x y : Word) : Bool := decide (x.toNat + y.toNat > 65535)

/-! ## Decimal adjust (43_accumulator.md R165) -/

/-- DAA makes the low correction: AuxCarry set or the low nibble above 9. -/
def daaLow (a : Byte) (ac : Bool) : Bool := ac || decide (a.toNat % 16 > 9)

/-- The sum after the low step, not reduced to eight bits (D9). -/
def daaSum (a : Byte) (ac : Bool) : Nat := a.toNat + if daaLow a ac then 6 else 0

/-- DAA makes the high correction: Carry set or the sum above 0x99, the sum reduced first only under the switch of D9. -/
def daaHigh (maskFirst : Bool) (a : Byte) (ac cy : Bool) : Bool :=
  cy || decide ((if maskFirst then daaSum a ac % 256 else daaSum a ac) > 0x99)

/-- The accumulator after DAA. -/
def daaResult (maskFirst : Bool) (a : Byte) (ac cy : Bool) : Byte :=
  BitVec.ofNat 8 (daaSum a ac + if daaHigh maskFirst a ac cy then 0x60 else 0)

/-- The flags after DAA: AuxCarry is the carry out of bit 3 of the low step; Carry is set by the high step and otherwise
left. -/
def daaFlags (maskFirst : Bool) (a : Byte) (ac cy : Bool) : Flags :=
  szpFlags (daaResult maskFirst a ac cy) (daaLow a ac && decide (a.toNat % 16 + 6 > 15))
    (if daaHigh maskFirst a ac cy then true else cy)

end Sys2Proof.Machine
end

