-- ==== Sys2Proof/Machine/Accumulator.lean ====
section
/-! DEFINITION. The meanings of 43_accumulator.md. -/

namespace Sys2Proof.Machine

/-- Write Carry alone (R174, R175). -/
def State.setCarry (s : State) (cy : Bool) : State := { s with flags := { s.flags with cy := cy } }

/-- DAA (R165). -/
def State.decimalAdjust (s : State) : State :=
  { s with
    a := daaResult Config.daaMaskBeforeCompare s.a s.flags.ac s.flags.cy
    flags := daaFlags Config.daaMaskBeforeCompare s.a s.flags.ac s.flags.cy }

/-- RLC: bit 7 goes to Carry and to bit 0 (R168). -/
def State.rotateLeft (s : State) : State :=
  { s with a := BitVec.ofNat 8 (s.a.toNat * 2 % 256 + (s.a.getLsbD 7).toNat) }.setCarry (s.a.getLsbD 7)

/-- RRC: bit 0 goes to Carry and to bit 7 (R169). -/
def State.rotateRight (s : State) : State :=
  { s with a := BitVec.ofNat 8 (s.a.toNat / 2 + 128 * (s.a.getLsbD 0).toNat) }.setCarry (s.a.getLsbD 0)

/-- RAL: bit 7 goes to Carry, the old Carry to bit 0 (R170). -/
def State.rotateLeftCarry (s : State) : State :=
  { s with a := BitVec.ofNat 8 (s.a.toNat * 2 % 256 + s.flags.cy.toNat) }.setCarry (s.a.getLsbD 7)

/-- RAR: bit 0 goes to Carry, the old Carry to bit 7 (R171). -/
def State.rotateRightCarry (s : State) : State :=
  { s with a := BitVec.ofNat 8 (s.a.toNat / 2 + 128 * s.flags.cy.toNat) }.setCarry (s.a.getLsbD 0)

/-- 0x07 RLC (R168). -/
def execRlc (s : State) : Result := .next (s.rotateLeft)

/-- 0x0F RRC (R169). -/
def execRrc (s : State) : Result := .next (s.rotateRight)

/-- 0x17 RAL (R170). -/
def execRal (s : State) : Result := .next (s.rotateLeftCarry)

/-- 0x1F RAR (R171). -/
def execRar (s : State) : Result := .next (s.rotateRightCarry)

/-- 0x27 DAA (R165). -/
def execDaa (s : State) : Result := .next (s.decimalAdjust)

/-- 0x2F CMA (R173). -/
def execCma (s : State) : Result := .next { s with a := ~~~s.a }

/-- 0x37 STC (R174). -/
def execStc (s : State) : Result := .next (s.setCarry true)

/-- 0x3F CMC (R175). -/
def execCmc (s : State) : Result := .next (s.setCarry !s.flags.cy)

end Sys2Proof.Machine
end

