-- ==== Sys2Proof/Machine/Operands.lean ====
section
/-! DEFINITION. The 8-bit operand forms (40_data_transfer.md R101, R102). Immediate operands reach a meaning as its
arguments; the direct address is an argument too; BC, DE, HL and the stack are `State.rp`, `State.hl`, `State.sp`. -/

namespace Sys2Proof.Machine

/-- `Src8(c)`: the register, or the byte at HL (R101). -/
def State.src8 (s : State) : Operand → Byte
  | .reg r => s.reg r
  | .m => s.byteAt s.hl

/-- `Dst8(c, v)`: write the register, or the byte at HL (R101). -/
def State.setDst8 (s : State) (o : Operand) (v : Byte) : State :=
  match o with
  | .reg r => s.setReg r v
  | .m => s.storeByte s.hl v

end Sys2Proof.Machine
end

