-- ==== Sys2Proof/Machine/Alu8.lean ====
section
/-! DEFINITION. The meanings of 41_alu8.md. Every form writes all five flags (R120, R125). -/

namespace Sys2Proof.Machine

/-- One operation of the 8-bit ALU on A and an operand read before A is written: the new A and all five flags
(R120 to R142). CMP writes no register; AND forces AuxCarry true, XOR and OR force it false (R125). -/
def State.accumulate (s : State) (op : AluOp) (v : Byte) : State :=
  match op with
  | .add => { s with a := add8 s.a v false, flags := addFlags s.a v false }
  | .adc => { s with a := add8 s.a v s.flags.cy, flags := addFlags s.a v s.flags.cy }
  | .sub => { s with a := sub8 s.a v false, flags := subFlags s.a v false }
  | .sbb => { s with a := sub8 s.a v s.flags.cy, flags := subFlags s.a v s.flags.cy }
  | .ana => { s with a := s.a &&& v, flags := logicFlags (s.a &&& v) true }
  | .xra => { s with a := s.a ^^^ v, flags := logicFlags (s.a ^^^ v) false }
  | .ora => { s with a := s.a ||| v, flags := logicFlags (s.a ||| v) false }
  | .cmp => { s with flags := subFlags s.a v false }

/-- 0x80 ADD B (R127). -/
def execAddB (s : State) : Result := .next (s.accumulate .add (s.src8 (.reg .b)))

/-- 0x81 ADD C (R127). -/
def execAddC (s : State) : Result := .next (s.accumulate .add (s.src8 (.reg .c)))

/-- 0x82 ADD D (R127). -/
def execAddD (s : State) : Result := .next (s.accumulate .add (s.src8 (.reg .d)))

/-- 0x83 ADD E (R127). -/
def execAddE (s : State) : Result := .next (s.accumulate .add (s.src8 (.reg .e)))

/-- 0x84 ADD H (R127). -/
def execAddH (s : State) : Result := .next (s.accumulate .add (s.src8 (.reg .h)))

/-- 0x85 ADD L (R127). -/
def execAddL (s : State) : Result := .next (s.accumulate .add (s.src8 (.reg .l)))

/-- 0x86 ADD M (R127). -/
def execAddM (s : State) : Result := .next (s.accumulate .add (s.src8 .m))

/-- 0x87 ADD A (R127). -/
def execAddA (s : State) : Result := .next (s.accumulate .add (s.src8 (.reg .a)))

/-- 0x88 ADC B (R129). -/
def execAdcB (s : State) : Result := .next (s.accumulate .adc (s.src8 (.reg .b)))

/-- 0x89 ADC C (R129). -/
def execAdcC (s : State) : Result := .next (s.accumulate .adc (s.src8 (.reg .c)))

/-- 0x8A ADC D (R129). -/
def execAdcD (s : State) : Result := .next (s.accumulate .adc (s.src8 (.reg .d)))

/-- 0x8B ADC E (R129). -/
def execAdcE (s : State) : Result := .next (s.accumulate .adc (s.src8 (.reg .e)))

/-- 0x8C ADC H (R129). -/
def execAdcH (s : State) : Result := .next (s.accumulate .adc (s.src8 (.reg .h)))

/-- 0x8D ADC L (R129). -/
def execAdcL (s : State) : Result := .next (s.accumulate .adc (s.src8 (.reg .l)))

/-- 0x8E ADC M (R129). -/
def execAdcM (s : State) : Result := .next (s.accumulate .adc (s.src8 .m))

/-- 0x8F ADC A (R129). -/
def execAdcA (s : State) : Result := .next (s.accumulate .adc (s.src8 (.reg .a)))

/-- 0x90 SUB B (R131). -/
def execSubB (s : State) : Result := .next (s.accumulate .sub (s.src8 (.reg .b)))

/-- 0x91 SUB C (R131). -/
def execSubC (s : State) : Result := .next (s.accumulate .sub (s.src8 (.reg .c)))

/-- 0x92 SUB D (R131). -/
def execSubD (s : State) : Result := .next (s.accumulate .sub (s.src8 (.reg .d)))

/-- 0x93 SUB E (R131). -/
def execSubE (s : State) : Result := .next (s.accumulate .sub (s.src8 (.reg .e)))

/-- 0x94 SUB H (R131). -/
def execSubH (s : State) : Result := .next (s.accumulate .sub (s.src8 (.reg .h)))

/-- 0x95 SUB L (R131). -/
def execSubL (s : State) : Result := .next (s.accumulate .sub (s.src8 (.reg .l)))

/-- 0x96 SUB M (R131). -/
def execSubM (s : State) : Result := .next (s.accumulate .sub (s.src8 .m))

/-- 0x97 SUB A (R131). -/
def execSubA (s : State) : Result := .next (s.accumulate .sub (s.src8 (.reg .a)))

/-- 0x98 SBB B (R133). -/
def execSbbB (s : State) : Result := .next (s.accumulate .sbb (s.src8 (.reg .b)))

/-- 0x99 SBB C (R133). -/
def execSbbC (s : State) : Result := .next (s.accumulate .sbb (s.src8 (.reg .c)))

/-- 0x9A SBB D (R133). -/
def execSbbD (s : State) : Result := .next (s.accumulate .sbb (s.src8 (.reg .d)))

/-- 0x9B SBB E (R133). -/
def execSbbE (s : State) : Result := .next (s.accumulate .sbb (s.src8 (.reg .e)))

/-- 0x9C SBB H (R133). -/
def execSbbH (s : State) : Result := .next (s.accumulate .sbb (s.src8 (.reg .h)))

/-- 0x9D SBB L (R133). -/
def execSbbL (s : State) : Result := .next (s.accumulate .sbb (s.src8 (.reg .l)))

/-- 0x9E SBB M (R133). -/
def execSbbM (s : State) : Result := .next (s.accumulate .sbb (s.src8 .m))

/-- 0x9F SBB A (R133). -/
def execSbbA (s : State) : Result := .next (s.accumulate .sbb (s.src8 (.reg .a)))

/-- 0xA0 ANA B (R135). -/
def execAnaB (s : State) : Result := .next (s.accumulate .ana (s.src8 (.reg .b)))

/-- 0xA1 ANA C (R135). -/
def execAnaC (s : State) : Result := .next (s.accumulate .ana (s.src8 (.reg .c)))

/-- 0xA2 ANA D (R135). -/
def execAnaD (s : State) : Result := .next (s.accumulate .ana (s.src8 (.reg .d)))

/-- 0xA3 ANA E (R135). -/
def execAnaE (s : State) : Result := .next (s.accumulate .ana (s.src8 (.reg .e)))

/-- 0xA4 ANA H (R135). -/
def execAnaH (s : State) : Result := .next (s.accumulate .ana (s.src8 (.reg .h)))

/-- 0xA5 ANA L (R135). -/
def execAnaL (s : State) : Result := .next (s.accumulate .ana (s.src8 (.reg .l)))

/-- 0xA6 ANA M (R135). -/
def execAnaM (s : State) : Result := .next (s.accumulate .ana (s.src8 .m))

/-- 0xA7 ANA A (R135). -/
def execAnaA (s : State) : Result := .next (s.accumulate .ana (s.src8 (.reg .a)))

/-- 0xA8 XRA B (R137). -/
def execXraB (s : State) : Result := .next (s.accumulate .xra (s.src8 (.reg .b)))

/-- 0xA9 XRA C (R137). -/
def execXraC (s : State) : Result := .next (s.accumulate .xra (s.src8 (.reg .c)))

/-- 0xAA XRA D (R137). -/
def execXraD (s : State) : Result := .next (s.accumulate .xra (s.src8 (.reg .d)))

/-- 0xAB XRA E (R137). -/
def execXraE (s : State) : Result := .next (s.accumulate .xra (s.src8 (.reg .e)))

/-- 0xAC XRA H (R137). -/
def execXraH (s : State) : Result := .next (s.accumulate .xra (s.src8 (.reg .h)))

/-- 0xAD XRA L (R137). -/
def execXraL (s : State) : Result := .next (s.accumulate .xra (s.src8 (.reg .l)))

/-- 0xAE XRA M (R137). -/
def execXraM (s : State) : Result := .next (s.accumulate .xra (s.src8 .m))

/-- 0xAF XRA A (R137). -/
def execXraA (s : State) : Result := .next (s.accumulate .xra (s.src8 (.reg .a)))

/-- 0xB0 ORA B (R139). -/
def execOraB (s : State) : Result := .next (s.accumulate .ora (s.src8 (.reg .b)))

/-- 0xB1 ORA C (R139). -/
def execOraC (s : State) : Result := .next (s.accumulate .ora (s.src8 (.reg .c)))

/-- 0xB2 ORA D (R139). -/
def execOraD (s : State) : Result := .next (s.accumulate .ora (s.src8 (.reg .d)))

/-- 0xB3 ORA E (R139). -/
def execOraE (s : State) : Result := .next (s.accumulate .ora (s.src8 (.reg .e)))

/-- 0xB4 ORA H (R139). -/
def execOraH (s : State) : Result := .next (s.accumulate .ora (s.src8 (.reg .h)))

/-- 0xB5 ORA L (R139). -/
def execOraL (s : State) : Result := .next (s.accumulate .ora (s.src8 (.reg .l)))

/-- 0xB6 ORA M (R139). -/
def execOraM (s : State) : Result := .next (s.accumulate .ora (s.src8 .m))

/-- 0xB7 ORA A (R139). -/
def execOraA (s : State) : Result := .next (s.accumulate .ora (s.src8 (.reg .a)))

/-- 0xB8 CMP B (R141). -/
def execCmpB (s : State) : Result := .next (s.accumulate .cmp (s.src8 (.reg .b)))

/-- 0xB9 CMP C (R141). -/
def execCmpC (s : State) : Result := .next (s.accumulate .cmp (s.src8 (.reg .c)))

/-- 0xBA CMP D (R141). -/
def execCmpD (s : State) : Result := .next (s.accumulate .cmp (s.src8 (.reg .d)))

/-- 0xBB CMP E (R141). -/
def execCmpE (s : State) : Result := .next (s.accumulate .cmp (s.src8 (.reg .e)))

/-- 0xBC CMP H (R141). -/
def execCmpH (s : State) : Result := .next (s.accumulate .cmp (s.src8 (.reg .h)))

/-- 0xBD CMP L (R141). -/
def execCmpL (s : State) : Result := .next (s.accumulate .cmp (s.src8 (.reg .l)))

/-- 0xBE CMP M (R141). -/
def execCmpM (s : State) : Result := .next (s.accumulate .cmp (s.src8 .m))

/-- 0xBF CMP A (R141). -/
def execCmpA (s : State) : Result := .next (s.accumulate .cmp (s.src8 (.reg .a)))

/-- 0xC6 ADI d8 (R128). -/
def execAdi (d : Byte) (s : State) : Result := .next (s.accumulate .add d)

/-- 0xCE ACI d8 (R130). -/
def execAci (d : Byte) (s : State) : Result := .next (s.accumulate .adc d)

/-- 0xD6 SUI d8 (R132). -/
def execSui (d : Byte) (s : State) : Result := .next (s.accumulate .sub d)

/-- 0xDE SBI d8 (R134). -/
def execSbi (d : Byte) (s : State) : Result := .next (s.accumulate .sbb d)

/-- 0xE6 ANI d8 (R136). -/
def execAni (d : Byte) (s : State) : Result := .next (s.accumulate .ana d)

/-- 0xEE XRI d8 (R138). -/
def execXri (d : Byte) (s : State) : Result := .next (s.accumulate .xra d)

/-- 0xF6 ORI d8 (R140). -/
def execOri (d : Byte) (s : State) : Result := .next (s.accumulate .ora d)

/-- 0xFE CPI d8 (R142). -/
def execCpi (d : Byte) (s : State) : Result := .next (s.accumulate .cmp d)

end Sys2Proof.Machine
end

