-- ==== Sys2Proof/Machine/Control.lean ====
section
/-! DEFINITION. The meanings of 44_control.md. PC already stands past the instruction when a meaning runs, so it is the return address (R181). -/

namespace Sys2Proof.Machine

/-- Go to a target (R182). -/
def State.jump (s : State) (target : Word) : State := { s with pc := target }

/-- Push the return address and go to a target (R186, R192). -/
def State.call (s : State) (target : Word) : State := (s.push16 s.pc).jump target

/-- Go to the address popped (R189). -/
def State.ret (s : State) : State := s.pop16.jump s.stackTop

/-- A conditional jump (R184). -/
def State.jumpIf (s : State) (cond : Cond) (target : Word) : State := if s.flags.holds cond then s.jump target else s

/-- A conditional call: when the condition is false nothing is pushed (R188). -/
def State.callIf (s : State) (cond : Cond) (target : Word) : State := if s.flags.holds cond then s.call target else s

/-- A conditional return: when the condition is false SP stays (R191). -/
def State.retIf (s : State) (cond : Cond) : State := if s.flags.holds cond then s.ret else s

/-- 0xC0 RNZ (R191). -/
def execRnz (s : State) : Result := .next (s.retIf .nz)

/-- 0xC2 JNZ a16 (R184). -/
def execJnz (a : Word) (s : State) : Result := .next (s.jumpIf .nz a)

/-- 0xC3 JMP a16 (R182). -/
def execJmp (a : Word) (s : State) : Result := .next (s.jump a)

/-- 0xC4 CNZ a16 (R188). -/
def execCnz (a : Word) (s : State) : Result := .next (s.callIf .nz a)

/-- 0xC7 RST 0 (R192). -/
def execRst0 (s : State) : Result := .next (s.call (vectorAddress 0))

/-- 0xC8 RZ (R191). -/
def execRz (s : State) : Result := .next (s.retIf .z)

/-- 0xC9 RET (R189). -/
def execRet (s : State) : Result := .next (s.ret)

/-- 0xCA JZ a16 (R184). -/
def execJz (a : Word) (s : State) : Result := .next (s.jumpIf .z a)

/-- 0xCB *JMP a16 (R183). -/
def execJmpCB (a : Word) (s : State) : Result := .next (s.jump a)

/-- 0xCC CZ a16 (R188). -/
def execCz (a : Word) (s : State) : Result := .next (s.callIf .z a)

/-- 0xCD CALL a16 (R186). -/
def execCall (a : Word) (s : State) : Result := .next (s.call a)

/-- 0xCF RST 1 (R192). -/
def execRst1 (s : State) : Result := .next (s.call (vectorAddress 1))

/-- 0xD0 RNC (R191). -/
def execRnc (s : State) : Result := .next (s.retIf .nc)

/-- 0xD2 JNC a16 (R184). -/
def execJnc (a : Word) (s : State) : Result := .next (s.jumpIf .nc a)

/-- 0xD4 CNC a16 (R188). -/
def execCnc (a : Word) (s : State) : Result := .next (s.callIf .nc a)

/-- 0xD7 RST 2 (R192). -/
def execRst2 (s : State) : Result := .next (s.call (vectorAddress 2))

/-- 0xD8 RC (R191). -/
def execRc (s : State) : Result := .next (s.retIf .c)

/-- 0xD9 *RET (R190). -/
def execRetD9 (s : State) : Result := .next (s.ret)

/-- 0xDA JC a16 (R184). -/
def execJc (a : Word) (s : State) : Result := .next (s.jumpIf .c a)

/-- 0xDC CC a16 (R188). -/
def execCc (a : Word) (s : State) : Result := .next (s.callIf .c a)

/-- 0xDD *CALL a16 (R187). -/
def execCallDD (a : Word) (s : State) : Result := .next (s.call a)

/-- 0xDF RST 3 (R192). -/
def execRst3 (s : State) : Result := .next (s.call (vectorAddress 3))

/-- 0xE0 RPO (R191). -/
def execRpo (s : State) : Result := .next (s.retIf .po)

/-- 0xE2 JPO a16 (R184). -/
def execJpo (a : Word) (s : State) : Result := .next (s.jumpIf .po a)

/-- 0xE4 CPO a16 (R188). -/
def execCpo (a : Word) (s : State) : Result := .next (s.callIf .po a)

/-- 0xE7 RST 4 (R192). -/
def execRst4 (s : State) : Result := .next (s.call (vectorAddress 4))

/-- 0xE8 RPE (R191). -/
def execRpe (s : State) : Result := .next (s.retIf .pe)

/-- 0xE9 PCHL (R185). -/
def execPchl (s : State) : Result := .next (s.jump s.hl)

/-- 0xEA JPE a16 (R184). -/
def execJpe (a : Word) (s : State) : Result := .next (s.jumpIf .pe a)

/-- 0xEC CPE a16 (R188). -/
def execCpe (a : Word) (s : State) : Result := .next (s.callIf .pe a)

/-- 0xED *CALL a16 (R187). -/
def execCallED (a : Word) (s : State) : Result := .next (s.call a)

/-- 0xEF RST 5 (R192). -/
def execRst5 (s : State) : Result := .next (s.call (vectorAddress 5))

/-- 0xF0 RP (R191). -/
def execRp (s : State) : Result := .next (s.retIf .p)

/-- 0xF2 JP a16 (R184). -/
def execJp (a : Word) (s : State) : Result := .next (s.jumpIf .p a)

/-- 0xF4 CP a16 (R188). -/
def execCp (a : Word) (s : State) : Result := .next (s.callIf .p a)

/-- 0xF7 RST 6 (R192). -/
def execRst6 (s : State) : Result := .next (s.call (vectorAddress 6))

/-- 0xF8 RM (R191). -/
def execRm (s : State) : Result := .next (s.retIf .m)

/-- 0xFA JM a16 (R184). -/
def execJm (a : Word) (s : State) : Result := .next (s.jumpIf .m a)

/-- 0xFC CM a16 (R188). -/
def execCm (a : Word) (s : State) : Result := .next (s.callIf .m a)

/-- 0xFD *CALL a16 (R187). -/
def execCallFD (a : Word) (s : State) : Result := .next (s.call a)

/-- 0xFF RST 7 (R192). -/
def execRst7 (s : State) : Result := .next (s.call (vectorAddress 7))

end Sys2Proof.Machine
end

