-- ==== Sys2Proof/Machine/DataTransfer.lean ====
section
/-! DEFINITION. The meanings of 40_data_transfer.md. No instruction here reads or writes a flag (R100). -/

namespace Sys2Proof.Machine

/-- MOV r1,r2 (R103). -/
def State.movRegs (s : State) (dst src : Reg) : State := s.setReg dst (s.reg src)

/-- MOV r,M: the address is formed from the old HL (R104, R101). -/
def State.movFromMem (s : State) (dst : Reg) : State := s.setReg dst (s.byteAt s.hl)

/-- MOV M,r (R105). -/
def State.movToMem (s : State) (src : Reg) : State := s.storeByte s.hl (s.reg src)

/-- 0x01 LXI B,d16 (R108). -/
def execLxiB (w : Word) (s : State) : Result := .next (s.setPair (.rp .bc) w)

/-- 0x02 STAX B (R114). -/
def execStaxB (s : State) : Result := .next (s.storeByte (s.rp .bc) s.a)

/-- 0x06 MVI B,d8 (R106). -/
def execMviB (d : Byte) (s : State) : Result := .next (s.setDst8 (.reg .b) d)

/-- 0x0A LDAX B (R113). -/
def execLdaxB (s : State) : Result := .next { s with a := s.byteAt (s.rp .bc) }

/-- 0x0E MVI C,d8 (R106). -/
def execMviC (d : Byte) (s : State) : Result := .next (s.setDst8 (.reg .c) d)

/-- 0x11 LXI D,d16 (R108). -/
def execLxiD (w : Word) (s : State) : Result := .next (s.setPair (.rp .de) w)

/-- 0x12 STAX D (R114). -/
def execStaxD (s : State) : Result := .next (s.storeByte (s.rp .de) s.a)

/-- 0x16 MVI D,d8 (R106). -/
def execMviD (d : Byte) (s : State) : Result := .next (s.setDst8 (.reg .d) d)

/-- 0x1A LDAX D (R113). -/
def execLdaxD (s : State) : Result := .next { s with a := s.byteAt (s.rp .de) }

/-- 0x1E MVI E,d8 (R106). -/
def execMviE (d : Byte) (s : State) : Result := .next (s.setDst8 (.reg .e) d)

/-- 0x21 LXI H,d16 (R108). -/
def execLxiH (w : Word) (s : State) : Result := .next (s.setPair (.rp .hl) w)

/-- 0x22 SHLD a16 (R112). -/
def execShld (a : Word) (s : State) : Result := .next (s.storeWord a s.hl)

/-- 0x26 MVI H,d8 (R106). -/
def execMviH (d : Byte) (s : State) : Result := .next (s.setDst8 (.reg .h) d)

/-- 0x2A LHLD a16 (R111). -/
def execLhld (a : Word) (s : State) : Result := .next (s.setRp .hl (s.wordAt a))

/-- 0x2E MVI L,d8 (R106). -/
def execMviL (d : Byte) (s : State) : Result := .next (s.setDst8 (.reg .l) d)

/-- 0x31 LXI SP,d16 (R108). -/
def execLxiSp (w : Word) (s : State) : Result := .next (s.setPair .sp w)

/-- 0x32 STA a16 (R110). -/
def execSta (a : Word) (s : State) : Result := .next (s.storeByte a s.a)

/-- 0x36 MVI M,d8 (R107). -/
def execMviM (d : Byte) (s : State) : Result := .next (s.setDst8 .m d)

/-- 0x3A LDA a16 (R109). -/
def execLda (a : Word) (s : State) : Result := .next { s with a := s.byteAt a }

/-- 0x3E MVI A,d8 (R106). -/
def execMviA (d : Byte) (s : State) : Result := .next (s.setDst8 (.reg .a) d)

/-- 0x40 MOV B,B (R103). -/
def execMovBB (s : State) : Result := .next (s.movRegs .b .b)

/-- 0x41 MOV B,C (R103). -/
def execMovBC (s : State) : Result := .next (s.movRegs .b .c)

/-- 0x42 MOV B,D (R103). -/
def execMovBD (s : State) : Result := .next (s.movRegs .b .d)

/-- 0x43 MOV B,E (R103). -/
def execMovBE (s : State) : Result := .next (s.movRegs .b .e)

/-- 0x44 MOV B,H (R103). -/
def execMovBH (s : State) : Result := .next (s.movRegs .b .h)

/-- 0x45 MOV B,L (R103). -/
def execMovBL (s : State) : Result := .next (s.movRegs .b .l)

/-- 0x46 MOV B,M (R104). -/
def execMovBM (s : State) : Result := .next (s.movFromMem .b)

/-- 0x47 MOV B,A (R103). -/
def execMovBA (s : State) : Result := .next (s.movRegs .b .a)

/-- 0x48 MOV C,B (R103). -/
def execMovCB (s : State) : Result := .next (s.movRegs .c .b)

/-- 0x49 MOV C,C (R103). -/
def execMovCC (s : State) : Result := .next (s.movRegs .c .c)

/-- 0x4A MOV C,D (R103). -/
def execMovCD (s : State) : Result := .next (s.movRegs .c .d)

/-- 0x4B MOV C,E (R103). -/
def execMovCE (s : State) : Result := .next (s.movRegs .c .e)

/-- 0x4C MOV C,H (R103). -/
def execMovCH (s : State) : Result := .next (s.movRegs .c .h)

/-- 0x4D MOV C,L (R103). -/
def execMovCL (s : State) : Result := .next (s.movRegs .c .l)

/-- 0x4E MOV C,M (R104). -/
def execMovCM (s : State) : Result := .next (s.movFromMem .c)

/-- 0x4F MOV C,A (R103). -/
def execMovCA (s : State) : Result := .next (s.movRegs .c .a)

/-- 0x50 MOV D,B (R103). -/
def execMovDB (s : State) : Result := .next (s.movRegs .d .b)

/-- 0x51 MOV D,C (R103). -/
def execMovDC (s : State) : Result := .next (s.movRegs .d .c)

/-- 0x52 MOV D,D (R103). -/
def execMovDD (s : State) : Result := .next (s.movRegs .d .d)

/-- 0x53 MOV D,E (R103). -/
def execMovDE (s : State) : Result := .next (s.movRegs .d .e)

/-- 0x54 MOV D,H (R103). -/
def execMovDH (s : State) : Result := .next (s.movRegs .d .h)

/-- 0x55 MOV D,L (R103). -/
def execMovDL (s : State) : Result := .next (s.movRegs .d .l)

/-- 0x56 MOV D,M (R104). -/
def execMovDM (s : State) : Result := .next (s.movFromMem .d)

/-- 0x57 MOV D,A (R103). -/
def execMovDA (s : State) : Result := .next (s.movRegs .d .a)

/-- 0x58 MOV E,B (R103). -/
def execMovEB (s : State) : Result := .next (s.movRegs .e .b)

/-- 0x59 MOV E,C (R103). -/
def execMovEC (s : State) : Result := .next (s.movRegs .e .c)

/-- 0x5A MOV E,D (R103). -/
def execMovED (s : State) : Result := .next (s.movRegs .e .d)

/-- 0x5B MOV E,E (R103). -/
def execMovEE (s : State) : Result := .next (s.movRegs .e .e)

/-- 0x5C MOV E,H (R103). -/
def execMovEH (s : State) : Result := .next (s.movRegs .e .h)

/-- 0x5D MOV E,L (R103). -/
def execMovEL (s : State) : Result := .next (s.movRegs .e .l)

/-- 0x5E MOV E,M (R104). -/
def execMovEM (s : State) : Result := .next (s.movFromMem .e)

/-- 0x5F MOV E,A (R103). -/
def execMovEA (s : State) : Result := .next (s.movRegs .e .a)

/-- 0x60 MOV H,B (R103). -/
def execMovHB (s : State) : Result := .next (s.movRegs .h .b)

/-- 0x61 MOV H,C (R103). -/
def execMovHC (s : State) : Result := .next (s.movRegs .h .c)

/-- 0x62 MOV H,D (R103). -/
def execMovHD (s : State) : Result := .next (s.movRegs .h .d)

/-- 0x63 MOV H,E (R103). -/
def execMovHE (s : State) : Result := .next (s.movRegs .h .e)

/-- 0x64 MOV H,H (R103). -/
def execMovHH (s : State) : Result := .next (s.movRegs .h .h)

/-- 0x65 MOV H,L (R103). -/
def execMovHL (s : State) : Result := .next (s.movRegs .h .l)

/-- 0x66 MOV H,M (R104). -/
def execMovHM (s : State) : Result := .next (s.movFromMem .h)

/-- 0x67 MOV H,A (R103). -/
def execMovHA (s : State) : Result := .next (s.movRegs .h .a)

/-- 0x68 MOV L,B (R103). -/
def execMovLB (s : State) : Result := .next (s.movRegs .l .b)

/-- 0x69 MOV L,C (R103). -/
def execMovLC (s : State) : Result := .next (s.movRegs .l .c)

/-- 0x6A MOV L,D (R103). -/
def execMovLD (s : State) : Result := .next (s.movRegs .l .d)

/-- 0x6B MOV L,E (R103). -/
def execMovLE (s : State) : Result := .next (s.movRegs .l .e)

/-- 0x6C MOV L,H (R103). -/
def execMovLH (s : State) : Result := .next (s.movRegs .l .h)

/-- 0x6D MOV L,L (R103). -/
def execMovLL (s : State) : Result := .next (s.movRegs .l .l)

/-- 0x6E MOV L,M (R104). -/
def execMovLM (s : State) : Result := .next (s.movFromMem .l)

/-- 0x6F MOV L,A (R103). -/
def execMovLA (s : State) : Result := .next (s.movRegs .l .a)

/-- 0x70 MOV M,B (R105). -/
def execMovMB (s : State) : Result := .next (s.movToMem .b)

/-- 0x71 MOV M,C (R105). -/
def execMovMC (s : State) : Result := .next (s.movToMem .c)

/-- 0x72 MOV M,D (R105). -/
def execMovMD (s : State) : Result := .next (s.movToMem .d)

/-- 0x73 MOV M,E (R105). -/
def execMovME (s : State) : Result := .next (s.movToMem .e)

/-- 0x74 MOV M,H (R105). -/
def execMovMH (s : State) : Result := .next (s.movToMem .h)

/-- 0x75 MOV M,L (R105). -/
def execMovML (s : State) : Result := .next (s.movToMem .l)

/-- 0x77 MOV M,A (R105). -/
def execMovMA (s : State) : Result := .next (s.movToMem .a)

/-- 0x78 MOV A,B (R103). -/
def execMovAB (s : State) : Result := .next (s.movRegs .a .b)

/-- 0x79 MOV A,C (R103). -/
def execMovAC (s : State) : Result := .next (s.movRegs .a .c)

/-- 0x7A MOV A,D (R103). -/
def execMovAD (s : State) : Result := .next (s.movRegs .a .d)

/-- 0x7B MOV A,E (R103). -/
def execMovAE (s : State) : Result := .next (s.movRegs .a .e)

/-- 0x7C MOV A,H (R103). -/
def execMovAH (s : State) : Result := .next (s.movRegs .a .h)

/-- 0x7D MOV A,L (R103). -/
def execMovAL (s : State) : Result := .next (s.movRegs .a .l)

/-- 0x7E MOV A,M (R104). -/
def execMovAM (s : State) : Result := .next (s.movFromMem .a)

/-- 0x7F MOV A,A (R103). -/
def execMovAA (s : State) : Result := .next (s.movRegs .a .a)

/-- 0xE3 XTHL (R116). -/
def execXthl (s : State) : Result := .next ((s.storeWord s.sp s.hl).setRp .hl s.stackTop)

/-- 0xEB XCHG (R115). -/
def execXchg (s : State) : Result := .next { s with d := s.h, e := s.l, h := s.d, l := s.e }

/-- 0xF9 SPHL (R117). -/
def execSphl (s : State) : Result := .next { s with sp := s.hl }

end Sys2Proof.Machine
end

