-- ==== Sys2Proof/Machine/IncDec.lean ====
section
/-! DEFINITION. The meanings of 42_incdec_pair.md. -/

namespace Sys2Proof.Machine

/-- INR: the operand plus one, written back to the same place; Carry stays (R150, R153, R154). -/
def State.increment (s : State) (o : Operand) : State :=
  { s.setDst8 o (s.src8 o + 1) with flags := incFlags (s.src8 o + 1) s.flags }

/-- DCR: the operand minus one, written back to the same place; Carry stays (R150, R155, R156). -/
def State.decrement (s : State) (o : Operand) : State :=
  { s.setDst8 o (s.src8 o - 1) with flags := decFlags (s.src8 o - 1) s.flags }

/-- DAD: HL plus a word; Carry alone is written (R159). -/
def State.addToHl (s : State) (w : Word) : State :=
  { s.setRp .hl (s.hl + w) with flags := { s.flags with cy := dadCarry s.hl w } }

/-- 0x03 INX B (R157). -/
def execInxB (s : State) : Result := .next (s.setPair (.rp .bc) (s.pair (.rp .bc) + 1))

/-- 0x04 INR B (R153). -/
def execInrB (s : State) : Result := .next (s.increment (.reg .b))

/-- 0x05 DCR B (R155). -/
def execDcrB (s : State) : Result := .next (s.decrement (.reg .b))

/-- 0x09 DAD B (R159). -/
def execDadB (s : State) : Result := .next (s.addToHl (s.pair (.rp .bc)))

/-- 0x0B DCX B (R158). -/
def execDcxB (s : State) : Result := .next (s.setPair (.rp .bc) (s.pair (.rp .bc) - 1))

/-- 0x0C INR C (R153). -/
def execInrC (s : State) : Result := .next (s.increment (.reg .c))

/-- 0x0D DCR C (R155). -/
def execDcrC (s : State) : Result := .next (s.decrement (.reg .c))

/-- 0x13 INX D (R157). -/
def execInxD (s : State) : Result := .next (s.setPair (.rp .de) (s.pair (.rp .de) + 1))

/-- 0x14 INR D (R153). -/
def execInrD (s : State) : Result := .next (s.increment (.reg .d))

/-- 0x15 DCR D (R155). -/
def execDcrD (s : State) : Result := .next (s.decrement (.reg .d))

/-- 0x19 DAD D (R159). -/
def execDadD (s : State) : Result := .next (s.addToHl (s.pair (.rp .de)))

/-- 0x1B DCX D (R158). -/
def execDcxD (s : State) : Result := .next (s.setPair (.rp .de) (s.pair (.rp .de) - 1))

/-- 0x1C INR E (R153). -/
def execInrE (s : State) : Result := .next (s.increment (.reg .e))

/-- 0x1D DCR E (R155). -/
def execDcrE (s : State) : Result := .next (s.decrement (.reg .e))

/-- 0x23 INX H (R157). -/
def execInxH (s : State) : Result := .next (s.setPair (.rp .hl) (s.pair (.rp .hl) + 1))

/-- 0x24 INR H (R153). -/
def execInrH (s : State) : Result := .next (s.increment (.reg .h))

/-- 0x25 DCR H (R155). -/
def execDcrH (s : State) : Result := .next (s.decrement (.reg .h))

/-- 0x29 DAD H (R159). -/
def execDadH (s : State) : Result := .next (s.addToHl (s.pair (.rp .hl)))

/-- 0x2B DCX H (R158). -/
def execDcxH (s : State) : Result := .next (s.setPair (.rp .hl) (s.pair (.rp .hl) - 1))

/-- 0x2C INR L (R153). -/
def execInrL (s : State) : Result := .next (s.increment (.reg .l))

/-- 0x2D DCR L (R155). -/
def execDcrL (s : State) : Result := .next (s.decrement (.reg .l))

/-- 0x33 INX SP (R157). -/
def execInxSp (s : State) : Result := .next (s.setPair .sp (s.pair .sp + 1))

/-- 0x34 INR M (R154). -/
def execInrM (s : State) : Result := .next (s.increment .m)

/-- 0x35 DCR M (R156). -/
def execDcrM (s : State) : Result := .next (s.decrement .m)

/-- 0x39 DAD SP (R159). -/
def execDadSp (s : State) : Result := .next (s.addToHl (s.pair .sp))

/-- 0x3B DCX SP (R158). -/
def execDcxSp (s : State) : Result := .next (s.setPair .sp (s.pair .sp - 1))

/-- 0x3C INR A (R153). -/
def execInrA (s : State) : Result := .next (s.increment (.reg .a))

/-- 0x3D DCR A (R155). -/
def execDcrA (s : State) : Result := .next (s.decrement (.reg .a))

end Sys2Proof.Machine
end

