-- ==== Sys2Proof/Machine/Io.lean ====
section
/-! DEFINITION. The meanings of 46_io_ports.md. -/

namespace Sys2Proof.Machine

/-- 0xD3 OUT p8 (R212). -/
def execOutPort (p : Byte) (s : State) : Result := .next (s.portWrite p s.a)

/-- 0xDB IN p8 (R211). -/
def execInPort (p : Byte) (s : State) : Result := .next { s with a := s.portRead p }

end Sys2Proof.Machine
end

