-- ==== Sys2Proof/Machine/Stack.lean ====
section
/-! DEFINITION. The meanings of 45_stack.md. -/

namespace Sys2Proof.Machine

/-- The word PUSH PSW pushes: A high, the flag byte low (R203). -/
def State.pswWord (s : State) : Word := joinBytes s.a s.flags.toByte

/-- A and the flags from a popped word (R205). -/
def State.setPsw (s : State) (w : Word) : State := { s with a := hiByte w, flags := Flags.ofByte (loByte w) }

/-- 0xC1 POP B (R204). -/
def execPopB (s : State) : Result := .next ((s.setRp .bc s.stackTop).pop16)

/-- 0xC5 PUSH B (R202). -/
def execPushB (s : State) : Result := .next (s.push16 (s.rp .bc))

/-- 0xD1 POP D (R204). -/
def execPopD (s : State) : Result := .next ((s.setRp .de s.stackTop).pop16)

/-- 0xD5 PUSH D (R202). -/
def execPushD (s : State) : Result := .next (s.push16 (s.rp .de))

/-- 0xE1 POP H (R204). -/
def execPopH (s : State) : Result := .next ((s.setRp .hl s.stackTop).pop16)

/-- 0xE5 PUSH H (R202). -/
def execPushH (s : State) : Result := .next (s.push16 (s.rp .hl))

/-- 0xF1 POP PSW (R205). -/
def execPopPsw (s : State) : Result := .next ((s.setPsw s.stackTop).pop16)

/-- 0xF5 PUSH PSW (R203). -/
def execPushPsw (s : State) : Result := .next (s.push16 s.pswWord)

end Sys2Proof.Machine
end

