-- ==== Sys2Proof/Machine/System.lean ====
section
/-! DEFINITION. The meanings of 47_system.md. PC already stands past the instruction, so NOP changes nothing more (R230). -/

namespace Sys2Proof.Machine

/-- 0x00 NOP (R230). -/
def execNop (s : State) : Result := .next s

/-- 0x08 *NOP (R231). -/
def execNop08 (s : State) : Result := .next s

/-- 0x10 *NOP (R231). -/
def execNop10 (s : State) : Result := .next s

/-- 0x18 *NOP (R231). -/
def execNop18 (s : State) : Result := .next s

/-- 0x20 *NOP (R231). -/
def execNop20 (s : State) : Result := .next s

/-- 0x28 *NOP (R231). -/
def execNop28 (s : State) : Result := .next s

/-- 0x30 *NOP (R231). -/
def execNop30 (s : State) : Result := .next s

/-- 0x38 *NOP (R231). -/
def execNop38 (s : State) : Result := .next s

/-- 0x76 HLT (R232). -/
def execHlt (s : State) : Result := .next { s with halted := true }

/-- 0xF3 DI (R234). -/
def execDi (s : State) : Result := .next { s with ie := false }

/-- 0xFB EI (R233). -/
def execEi (s : State) : Result := .next { s with ie := true }

end Sys2Proof.Machine
end

