-- ==== Sys2Proof/Machine/Interpreter.lean ====
section
/-! DEFINITION. The turns a step can take (60_exceptions.md R240, R246, R247): an action of the host, the frame
scheduler's request, or one instruction of the interpreter. -/

namespace Sys2Proof.Machine

/-- The interpreter's `step()`: nothing when halted; else the instruction at PC, run past its bytes (R240). -/
def interpret (s : State) : Result := if s.halted then .next s else exec s.fetched s.pastInstr

/-- The cycles `step()` reports: `CYC` of the opcode byte, 0 when halted (R240, 70_reset_and_hazards.md R284). -/
def reportedCycles (s : State) : Nat := if s.halted then 0 else cyclesOf (s.byteAt s.pc)

/-- The machine's own turn: under `frame`, the scheduler's request once its budget is reached (R247); else the
interpreter's step, its cycles added to the scheduler's accumulator (10_state.md R41). -/
def machineTurn (s : State) : Result :=
  if s.halfFrameOver then .next s.endHalfFrame
  else
    match interpret s with
    | .next t => .next (t.account (reportedCycles s))
    | .fault r => .fault r
    | .refused r => .refused r

/-- The next turn: the oldest of the script; with none left every turn is the machine's (R246, log 6). -/
def takeTurn (s : State) : Result :=
  match s.script with
  | [] => machineTurn s
  | .machine :: rest => machineTurn { s with script := rest }
  | .request v :: rest => .next ({ s with script := rest }.requestInterrupt v)
  | .setInput input on :: rest => .next ({ s with script := rest }.setInput input on)
  | .resetCpu :: rest => .next { s with script := rest }.resetCpu

end Sys2Proof.Machine
end

