-- ==== Sys2Proof/Machine/Step.lean ====
section
/-! DEFINITION. One step of the machine, and where an instruction is placed for the next step to run it. -/

namespace Sys2Proof.Machine

/-- One step: the next turn of the schedule (60_exceptions.md R240, R246). -/
def step (s : State) : Host.Outcome State Fault Refusal := takeTurn s

/-- `s` with a table-numbered instruction placed where the next step fetches and runs it (log 14). -/
def State.withFetchWord (s : State) (nbits w : Nat) : State := s.placeInstr nbits w

end Sys2Proof.Machine
end

