-- ==== Sys2Proof/Safety.lean ====
section
/-! DEFINITION. The terms claims are written in: what an instruction may change and what it leaves alone, the invariant
every step keeps, and what a cycle table must satisfy. -/

namespace Sys2Proof.Machine

/-- What may change: the registers and bytes listed, and the parts marked true; all else is to stay. -/
structure Changes where
  regs : List Reg := []
  bytes : List Word := []
  flags : Bool := false
  pc : Bool := false
  sp : Bool := false
  halted : Bool := false
  ie : Bool := false
  shiftData : Bool := false
  shiftOffset : Bool := false

/-- `t` differs from `s` at most in what `c` allows: every other register and every other byte of memory reads as
before, and so do the flags, PC, SP, the control booleans and the devices that `c` does not name; the input ports, the
scheduler and the schedule stay in every case. -/
structure Frame (c : Changes) (s t : State) : Prop where
  regs : ∀ r, r ∉ c.regs → t.reg r = s.reg r
  bytes : ∀ k, k ∉ c.bytes → t.byteAt k = s.byteAt k
  flags : c.flags = false → t.flags = s.flags
  pc : c.pc = false → t.pc = s.pc
  sp : c.sp = false → t.sp = s.sp
  halted : c.halted = false → t.halted = s.halted
  ie : c.ie = false → t.ie = s.ie
  shiftData : c.shiftData = false → t.shiftData = s.shiftData
  shiftOffset : c.shiftOffset = false → t.shiftOffset = s.shiftOffset
  port1 : t.port1 = s.port1
  port2 : t.port2 = s.port2
  intSched : t.intSched = s.intSched
  cycleAcc : t.cycleAcc = s.cycleAcc
  half : t.half = s.half
  script : t.script = s.script

/-- The two bytes a push from stack pointer `sp` writes (00_scope.md R10). -/
def pushedBytes (sp : Word) : List Word := [sp - 1, sp - 2]

/-- The invariant every step keeps: memory in canonical form; the scheduler's accumulator within the bound of
60_exceptions.md R249, and at rest unless `INT_SCHED` is `frame`; under `frame` the schedule holds no request of the
host's own, since there the scheduler makes them all (R242, R247). -/
structure State.Inv (s : State) : Prop where
  memory : Memory.wf s.mem
  budget : s.cycleAcc ≤ 16684
  atRest : s.intSched = .anyBoundary → s.cycleAcc = 0 ∧ s.half = .first
  requests : s.intSched = .frame → ∀ v, Turn.request v ∉ s.script

/-- What the spec asks of a cycle table: the bounds, the three entries, memory variants dearer than register variants
(70_reset_and_hazards.md R284), and an alias byte at the cost of what it copies (30_encoding.md R89). -/
structure CycleTableOk (t : Byte → Nat) : Prop where
  bounds : ∀ op, 4 ≤ t op ∧ t op ≤ 18
  nop : t 0x00 = 4
  call : t 0xCD = 17
  inrM : t 0x34 = 10
  movFrom : ∀ dst x y, t (Instr.movRR x y).opcode < t (Instr.movRM dst).opcode
  movTo : ∀ src x y, t (Instr.movRR x y).opcode < t (Instr.movMR src).opcode
  alu : ∀ op r, t (Instr.alu op (.reg r)).opcode < t (Instr.alu op .m).opcode
  nopAlias : ∀ op ∈ ([0x08, 0x10, 0x18, 0x20, 0x28, 0x30, 0x38] : List Byte), t op = t 0x00
  jmpAlias : t 0xCB = t 0xC3
  retAlias : t 0xD9 = t 0xC9
  callAlias : ∀ op ∈ ([0xDD, 0xED, 0xFD] : List Byte), t op = t 0xCD

end Sys2Proof.Machine
end

