-- ==== Sys2Proof/WellFormed.lean ====
section
/-! DEFINITION. Which sequences of bytes are exactly one instruction. A term of `Instr` needs no check: its operands are
a byte or a word by their types, and every value of them is legal (30_encoding.md R86, R90, R91); what can be ill formed
is a sequence of bytes, by its length alone (R81, R92). -/

namespace Sys2Proof

/-- Check 1: there is an opcode byte. -/
def hasOpcode (bytes : List Byte) : Bool := !bytes.isEmpty

/-- Check 2: no operand byte is missing. -/
def hasOperands (bytes : List Byte) : Bool := decide (opcodeLength (bytes.headD 0) ≤ bytes.length)

/-- Check 3: no byte is left over. -/
def hasNoMore (bytes : List Byte) : Bool := decide (bytes.length ≤ opcodeLength (bytes.headD 0))

/-- The bytes are one instruction, no less and no more. -/
def bytesWellFormed (bytes : List Byte) : Bool := hasOpcode bytes && hasOperands bytes && hasNoMore bytes

/-- An instruction is well formed when its encoding is; every instruction is (obligation EveryByteDecodesWithoutLoss). -/
def Instr.WellFormed (i : Instr) : Prop := bytesWellFormed (encode i) = true

end Sys2Proof
end

