-- ==== Sys2Proof/Certificates/Slice0/Obligations.lean ====
section
/-! DEFINITION. The statements for the provers, in the order of the spec's files. A meaning runs on a state whose PC
already stands past the instruction; each statement of an instruction gives its encoding, that it completes, what it
writes and, by `Frame`, that it changes nothing else. -/

open Sys2Proof Sys2Proof.Machine

/-! ## Reset and launch -/

/-- 70_reset_and_hazards.md R271: the interpreter right after reset. -/
def Obligations.ResetLeavesTheSpecValues : Prop :=
  (∀ r, State.reset.reg r = 0) ∧ State.reset.pc = 0 ∧ State.reset.sp = 0 ∧
    State.reset.flags = { s := false, z := false, ac := false, p := false, cy := false } ∧
    State.reset.flags.toByte = 0x02 ∧ State.reset.halted = false ∧ State.reset.ie = true

/-- 70_reset_and_hazards.md R272: the host's reset gives the interpreter its reset values and does not write memory, the
ports or the shifter (nor the scheduler); and, for any launch parameters, the launched machine: the interpreter as after
a reset (R271), memory (20_memory.md R60), the ports and the shifter from the parameters, the frame scheduler at the start
of a frame (10_state.md R45), whatever turns of the host are to come (log 6). -/
def Obligations.ResetTouchesTheInterpreterOnly : Prop :=
  (∀ s : State,
    (∀ r, s.resetCpu.reg r = 0) ∧ s.resetCpu.pc = 0 ∧ s.resetCpu.sp = 0 ∧
      s.resetCpu.flags = { s := false, z := false, ac := false, p := false, cy := false } ∧
      s.resetCpu.halted = false ∧ s.resetCpu.ie = true ∧
      Frame { regs := [.a, .b, .c, .d, .e, .h, .l], flags := true, pc := true, sp := true, halted := true, ie := true }
        s s.resetCpu) ∧
  ∀ (p : Launch) (turns : List Turn),
    (∀ r, (State.launch p turns).reg r = 0) ∧ (State.launch p turns).pc = 0 ∧ (State.launch p turns).sp = 0 ∧
      (State.launch p turns).flags = { s := false, z := false, ac := false, p := false, cy := false } ∧
      (State.launch p turns).halted = false ∧ (State.launch p turns).ie = true ∧
      (∀ (image : BitVec 2) (offset : BitVec 11),
        (State.launch p turns).byteAt (BitVec.ofNat 16 (image.toNat * 0x800 + offset.toNat)) =
          p.romImage image offset) ∧
      (∀ k : Word, 0x2000 ≤ k.toNat → (State.launch p turns).byteAt k = p.ram0 k) ∧
      (State.launch p turns).portRead 0 = 0x06 ∧
      (State.launch p turns).port1 = p.port1Reset ∧ (State.launch p turns).port2 = p.port2Dip ∧
      (State.launch p turns).shiftData = p.shiftDataReset ∧
      (State.launch p turns).shiftOffset = p.shiftOffsetReset ∧
      (State.launch p turns).intSched = p.intSched ∧ (State.launch p turns).cycleAcc = 0 ∧
      (State.launch p turns).half = .first

/-! ## Encoding -/

/-- 30_encoding.md R87: words written out from the spec decode to the instruction they stand for, whatever bytes follow
them; at least one of each of the twelve formats of R82 and of each of the files 40 to 47. -/
def Obligations.WordsFromTheSpecDecode : Prop :=
  ∀ x y : Byte,
    decode 0x00 x y = .nop ∧ decode 0xCD 0x34 0x12 = .call 0x1234 ∧ decode 0x34 x y = .inrM ∧
    decode 0x41 x y = .movBC ∧ decode 0x31 0xFF 0x23 = .lxiSp 0x23FF ∧ decode 0x36 0x3C y = .mviM 0x3C ∧
    decode 0x9D x y = .sbbL ∧ decode 0xFE 0x05 y = .cpi 0x05 ∧ decode 0x27 x y = .daa ∧
    decode 0x39 x y = .dadSp ∧ decode 0xEA 0x00 0x20 = .jpe 0x2000 ∧ decode 0xF5 x y = .pushPsw ∧
    decode 0xDB 0x03 y = .inPort 0x03 ∧ decode 0x76 x y = .hlt ∧ decode 0xF8 x y = .rm ∧ decode 0xEF x y = .rst5

/-- 30_encoding.md R81, R86, R87: decoding the encoding of an instruction gives it back, with every operand at every
value, and leaves the bytes after it. -/
def Obligations.DecodeUndoesEncode : Prop :=
  ∀ (i : Instr) (rest : List Byte), decodeBytes (encode i ++ rest) = .ok (i, rest)

/-- 30_encoding.md R81, R90, R91, R92: every opcode byte is an instruction, which keeps every bit of the opcode and of
the operand bytes its length reaches, so no two opcode bytes are the same instruction; and the sequences of bytes that
pass the length check are exactly the encodings. -/
def Obligations.EveryByteDecodesWithoutLoss : Prop :=
  (∀ op b1 b2 : Byte, encode (decode op b1 b2) = [op, b1, b2].take (opcodeLength op)) ∧
    ∀ bytes : List Byte, bytesWellFormed bytes = true ↔ ∃ i : Instr, encode i = bytes

/-- 30_encoding.md R88: the opcode map as bit patterns. -/
def Obligations.FieldPatternsSelectTheInstruction : Prop :=
  ∀ b1 b2 : Byte,
    decode 0b00000000 b1 b2 = .nop ∧
    (∀ x : BitVec 3, x ≠ 0 → decode (0b00#2 ++ x ++ 0b000#3) b1 b2 ∈ Instr.nopForms) ∧
    (∀ p : Pair, decode (0b00#2 ++ p.code ++ 0b0001#4) b1 b2 = Instr.lxi p (joinBytes b2 b1)) ∧
    decode 0b00000010 b1 b2 = .staxB ∧ decode 0b00010010 b1 b2 = .staxD ∧
    decode 0b00100010 b1 b2 = .shld (joinBytes b2 b1) ∧ decode 0b00110010 b1 b2 = .sta (joinBytes b2 b1) ∧
    (∀ p : Pair, decode (0b00#2 ++ p.code ++ 0b0011#4) b1 b2 = Instr.inx p) ∧
    (∀ r : Reg, decode (0b00#2 ++ r.code ++ 0b100#3) b1 b2 = Instr.inrR r) ∧ decode 0b00110100 b1 b2 = .inrM ∧
    (∀ r : Reg, decode (0b00#2 ++ r.code ++ 0b101#3) b1 b2 = Instr.dcrR r) ∧ decode 0b00110101 b1 b2 = .dcrM ∧
    (∀ r : Reg, decode (0b00#2 ++ r.code ++ 0b110#3) b1 b2 = Instr.mviR r b1) ∧
    decode 0b00110110 b1 b2 = .mviM b1 ∧
    decode 0b00000111 b1 b2 = .rlc ∧ decode 0b00001111 b1 b2 = .rrc ∧ decode 0b00010111 b1 b2 = .ral ∧
    decode 0b00011111 b1 b2 = .rar ∧ decode 0b00100111 b1 b2 = .daa ∧ decode 0b00101111 b1 b2 = .cma ∧
    decode 0b00110111 b1 b2 = .stc ∧ decode 0b00111111 b1 b2 = .cmc ∧
    (∀ p : Pair, decode (0b00#2 ++ p.code ++ 0b1001#4) b1 b2 = Instr.dad p) ∧
    decode 0b00001010 b1 b2 = .ldaxB ∧ decode 0b00011010 b1 b2 = .ldaxD ∧
    decode 0b00101010 b1 b2 = .lhld (joinBytes b2 b1) ∧ decode 0b00111010 b1 b2 = .lda (joinBytes b2 b1) ∧
    (∀ p : Pair, decode (0b00#2 ++ p.code ++ 0b1011#4) b1 b2 = Instr.dcx p) ∧
    (∀ dst src : Reg, decode (0b01#2 ++ dst.code ++ src.code) b1 b2 = Instr.movRR dst src) ∧
    (∀ dst : Reg, decode (0b01#2 ++ dst.code ++ 0b110#3) b1 b2 = Instr.movRM dst) ∧
    (∀ src : Reg, decode (0b01110#5 ++ src.code) b1 b2 = Instr.movMR src) ∧ decode 0b01110110 b1 b2 = .hlt ∧
    (∀ (op : AluOp) (o : Operand), decode (0b10#2 ++ op.code ++ o.code) b1 b2 = Instr.alu op o) ∧
    (∀ k : Cond, decode (0b11#2 ++ k.code ++ 0b000#3) b1 b2 = Instr.rcc k) ∧
    (∀ p : RegPair, decode (0b11#2 ++ p.code ++ 0b0001#4) b1 b2 = Instr.pop p) ∧
    decode 0b11110001 b1 b2 = .popPsw ∧
    (∀ k : Cond, decode (0b11#2 ++ k.code ++ 0b010#3) b1 b2 = Instr.jcc k (joinBytes b2 b1)) ∧
    decode 0b11000011 b1 b2 = .jmp (joinBytes b2 b1) ∧ decode 0b11001011 b1 b2 = .jmpCB (joinBytes b2 b1) ∧
    decode 0b11010011 b1 b2 = .outPort b1 ∧ decode 0b11011011 b1 b2 = .inPort b1 ∧
    decode 0b11100011 b1 b2 = .xthl ∧ decode 0b11101011 b1 b2 = .xchg ∧ decode 0b11110011 b1 b2 = .di ∧
    decode 0b11111011 b1 b2 = .ei ∧
    (∀ k : Cond, decode (0b11#2 ++ k.code ++ 0b100#3) b1 b2 = Instr.ccc k (joinBytes b2 b1)) ∧
    (∀ p : RegPair, decode (0b11#2 ++ p.code ++ 0b0101#4) b1 b2 = Instr.push p) ∧
    decode 0b11110101 b1 b2 = .pushPsw ∧
    (∀ op : AluOp, decode (0b11#2 ++ op.code ++ 0b110#3) b1 b2 = Instr.aluImm op b1) ∧
    (∀ n : BitVec 3, decode (0b11#2 ++ n ++ 0b111#3) b1 b2 = Instr.rst n) ∧
    decode 0b11001001 b1 b2 = .ret ∧ decode 0b11011001 b1 b2 = .retD9 ∧ decode 0b11101001 b1 b2 = .pchl ∧
    decode 0b11111001 b1 b2 = .sphl ∧ decode 0b11001101 b1 b2 = .call (joinBytes b2 b1) ∧
    decode 0b11011101 b1 b2 = .callDD (joinBytes b2 b1) ∧ decode 0b11101101 b1 b2 = .callED (joinBytes b2 b1) ∧
    decode 0b11111101 b1 b2 = .callFD (joinBytes b2 b1)

/-- 30_encoding.md R81: the length of an instruction is that of its opcode byte; the thirty opcodes listed are three
bytes long, the eighteen listed two, the other 208 one; and PC has advanced by the length before the effect. -/
def Obligations.LengthIsThatOfTheOpcode : Prop :=
  (∀ i : Instr, (encode i).length = opcodeLength i.opcode) ∧
    (∀ op : Byte, opcodeLength op = 3 ↔ op.toNat ∈
      [0x01, 0x11, 0x21, 0x31, 0x22, 0x2A, 0x32, 0x3A, 0xC3, 0xCB, 0xC2, 0xCA, 0xD2, 0xDA, 0xE2, 0xEA, 0xF2, 0xFA,
        0xCD, 0xDD, 0xED, 0xFD, 0xC4, 0xCC, 0xD4, 0xDC, 0xE4, 0xEC, 0xF4, 0xFC]) ∧
    (∀ op : Byte, opcodeLength op = 2 ↔ op.toNat ∈
      [0x06, 0x0E, 0x16, 0x1E, 0x26, 0x2E, 0x36, 0x3E, 0xC6, 0xCE, 0xD6, 0xDE, 0xE6, 0xEE, 0xF6, 0xFE, 0xD3, 0xDB]) ∧
    (List.range 256).countP (fun k => opcodeLength (BitVec.ofNat 8 k) == 3) = 30 ∧
    (List.range 256).countP (fun k => opcodeLength (BitVec.ofNat 8 k) == 2) = 18 ∧
    (List.range 256).countP (fun k => opcodeLength (BitVec.ofNat 8 k) == 1) = 208 ∧
    ∀ s : State, s.pastInstr.pc = s.pc + BitVec.ofNat 16 (encode s.fetched).length

/-- 30_encoding.md R89: the twelve alias bytes do exactly what NOP, JMP, RET and CALL do: the same change of every
state, the same length, the same cost. -/
def Obligations.AliasBytesBehaveAsTheirTarget : Prop :=
  ∀ op target : Byte,
    (op, target) ∈ ([(0x08, 0x00), (0x10, 0x00), (0x18, 0x00), (0x20, 0x00), (0x28, 0x00), (0x30, 0x00), (0x38, 0x00),
      (0xCB, 0xC3), (0xD9, 0xC9), (0xDD, 0xCD), (0xED, 0xCD), (0xFD, 0xCD)] : List (Byte × Byte)) →
    (∀ (b1 b2 : Byte) (s : State), exec (decode op b1 b2) s = exec (decode target b1 b2) s) ∧
      opcodeLength op = opcodeLength target ∧ cyclesOf op = cyclesOf target

/-! ## Memory -/

/-- 20_memory.md R50, R51, R53, R55: a write replaces one byte at any address and no other; words are little-endian and
wrap at the top of memory. -/
def Obligations.MemoryIsAFlatLittleEndianArray : Prop :=
  ∀ s : State,
    (∀ (k x : Word) (v : Byte), (s.storeByte k v).byteAt x = if x = k then v else s.byteAt x) ∧
    (∀ k w x : Word,
      (s.storeWord k w).byteAt x =
        if x = k then w.setWidth 8 else if x = k + 1 then (w >>> 8).setWidth 8 else s.byteAt x) ∧
    (∀ k : Word, (s.wordAt k).toNat = (s.byteAt (k + 1)).toNat * 256 + (s.byteAt k).toNat) ∧
    (s.wordAt 0xFFFF).toNat = (s.byteAt 0).toNat * 256 + (s.byteAt 0xFFFF).toNat

/-! ## The step -/

/-- 60_exceptions.md section 1: a halted interpreter's step changes nothing and reports 0 cycles; any other runs the
instruction whose bytes stand at PC, on the state with PC past them, and reports the cost of the opcode byte; it always
yields a next state. (That no other step changes nothing is not stated: a JMP to its own address changes nothing
either; log 23.) -/
def Obligations.InterpreterStepRunsTheInstructionAtPc : Prop :=
  ∀ s : State,
    (s.halted = true → interpret s = .next s ∧ reportedCycles s = 0) ∧
    (s.halted = false →
      (∀ (i : Instr) (rest : List Byte),
        decodeBytes [s.byteAt s.pc, s.byteAt (s.pc + 1), s.byteAt (s.pc + 2)] = .ok (i, rest) →
        interpret s = exec i { s with pc := s.pc + BitVec.ofNat 16 (encode i).length }) ∧
      reportedCycles s = cyclesOf (s.byteAt s.pc)) ∧
    ∃ t, interpret s = .next t

/-- 60_exceptions.md R240, 10_state.md R41: a step of the machine runs the decoded instruction. When the next turn is
the machine's, the interpreter is not halted and no half-frame is over, the step is `exec` of the instruction whose
encoding stands at PC, with PC moved past it; under `frame` the cost of the opcode byte is added to the scheduler's
accumulator, under `anyBoundary` nothing more happens. -/
def Obligations.StepRunsTheDecodedInstruction : Prop :=
  ∀ (s : State) (rest : List Turn) (i : Instr) (more : List Byte) (t : State),
    (s.script = [] ∧ rest = [] ∨ s.script = .machine :: rest) →
    s.halted = false →
    (s.intSched = .frame → s.cycleAcc < Config.halfFrameBudget) →
    decodeBytes [s.byteAt s.pc, s.byteAt (s.pc + 1), s.byteAt (s.pc + 2)] = .ok (i, more) →
    exec i { s with pc := s.pc + BitVec.ofNat 16 (encode i).length, script := rest } = .next t →
    (s.intSched = .anyBoundary → step s = .next t) ∧
      (s.intSched = .frame → step s = .next { t with cycleAcc := t.cycleAcc + cyclesOf (s.byteAt s.pc) })

/-- 60_exceptions.md R241: no instruction and no turn raises anything; each answers a next state. -/
def Obligations.NothingEverFaults : Prop :=
  (∀ (i : Instr) (s : State), ∃ t, exec i s = .next t) ∧ ∀ s : State, ∃ t, step s = .next t

/-! ## Data transfer -/

/-- 40_data_transfer.md R103: MOV r1,r2. -/
def Obligations.MovBetweenRegisters : Prop :=
  ∀ (dst src : Reg) (s : State),
    encode (Instr.movRR dst src) = [0b01#2 ++ dst.code ++ src.code] ∧
    ∃ t, exec (Instr.movRR dst src) s = .next t ∧ t.reg dst = s.reg src ∧ Frame { regs := [dst] } s t

/-- 40_data_transfer.md R104, R105: MOV r,M and MOV M,r, the address formed from HL before anything is written. -/
def Obligations.MovThroughHl : Prop :=
  ∀ (r : Reg) (s : State),
    (encode (Instr.movRM r) = [0b01#2 ++ r.code ++ 0b110#3] ∧
      ∃ t, exec (Instr.movRM r) s = .next t ∧ t.reg r = s.byteAt (joinBytes s.h s.l) ∧ Frame { regs := [r] } s t) ∧
    (encode (Instr.movMR r) = [0b01110#5 ++ r.code] ∧
      ∃ t, exec (Instr.movMR r) s = .next t ∧ t.byteAt (joinBytes s.h s.l) = s.reg r ∧
        Frame { bytes := [joinBytes s.h s.l] } s t)

/-- 40_data_transfer.md R106, R107: MVI r,d8 and MVI M,d8. -/
def Obligations.MviLoadsTheImmediate : Prop :=
  ∀ (v : Byte) (s : State),
    (∀ r : Reg, encode (Instr.mviR r v) = [0b00#2 ++ r.code ++ 0b110#3, v] ∧
      ∃ t, exec (Instr.mviR r v) s = .next t ∧ t.reg r = v ∧ Frame { regs := [r] } s t) ∧
    (encode (.mviM v) = [0x36, v] ∧
      ∃ t, exec (.mviM v) s = .next t ∧ t.byteAt (joinBytes s.h s.l) = v ∧
        Frame { bytes := [joinBytes s.h s.l] } s t)

/-- 40_data_transfer.md R108: LXI into BC, DE, HL (low byte to the low register) and SP. -/
def Obligations.LxiLoadsThePair : Prop :=
  ∀ (low high : Byte) (s : State),
    (∀ p : RegPair, encode (Instr.lxi (.rp p) (joinBytes high low)) = [0b00#2 ++ p.code ++ 0b0001#4, low, high] ∧
      ∃ t, exec (Instr.lxi (.rp p) (joinBytes high low)) s = .next t ∧ t.reg p.low = low ∧ t.reg p.high = high ∧
        Frame { regs := [p.high, p.low] } s t) ∧
    (encode (Instr.lxi .sp (joinBytes high low)) = [0x31, low, high] ∧
      ∃ t, exec (Instr.lxi .sp (joinBytes high low)) s = .next t ∧ t.sp = joinBytes high low ∧
        Frame { sp := true } s t)

/-- 40_data_transfer.md R109 to R112: LDA, STA, LHLD, SHLD; the second address wraps. -/
def Obligations.DirectLoadsAndStores : Prop :=
  ∀ (k : Word) (s : State),
    (encode (.lda k) = [0x3A, k.setWidth 8, (k >>> 8).setWidth 8] ∧
      ∃ t, exec (.lda k) s = .next t ∧ t.a = s.byteAt k ∧ Frame { regs := [.a] } s t) ∧
    (encode (.sta k) = [0x32, k.setWidth 8, (k >>> 8).setWidth 8] ∧
      ∃ t, exec (.sta k) s = .next t ∧ t.byteAt k = s.a ∧ Frame { bytes := [k] } s t) ∧
    (encode (.lhld k) = [0x2A, k.setWidth 8, (k >>> 8).setWidth 8] ∧
      ∃ t, exec (.lhld k) s = .next t ∧ t.l = s.byteAt k ∧ t.h = s.byteAt (k + 1) ∧
        Frame { regs := [.h, .l] } s t) ∧
    (encode (.shld k) = [0x22, k.setWidth 8, (k >>> 8).setWidth 8] ∧
      ∃ t, exec (.shld k) s = .next t ∧ t.byteAt k = s.l ∧ t.byteAt (k + 1) = s.h ∧
        Frame { bytes := [k, k + 1] } s t)

/-- 40_data_transfer.md R113, R114: LDAX and STAX through BC and DE. -/
def Obligations.IndirectLoadsAndStores : Prop :=
  ∀ s : State,
    encode .ldaxB = [0x0A] ∧ encode .ldaxD = [0x1A] ∧ encode .staxB = [0x02] ∧ encode .staxD = [0x12] ∧
    (∃ t, exec .ldaxB s = .next t ∧ t.a = s.byteAt (joinBytes s.b s.c) ∧ Frame { regs := [.a] } s t) ∧
    (∃ t, exec .ldaxD s = .next t ∧ t.a = s.byteAt (joinBytes s.d s.e) ∧ Frame { regs := [.a] } s t) ∧
    (∃ t, exec .staxB s = .next t ∧ t.byteAt (joinBytes s.b s.c) = s.a ∧
      Frame { bytes := [joinBytes s.b s.c] } s t) ∧
    (∃ t, exec .staxD s = .next t ∧ t.byteAt (joinBytes s.d s.e) = s.a ∧
      Frame { bytes := [joinBytes s.d s.e] } s t)

/-- 40_data_transfer.md R115 to R117: XCHG, XTHL and SPHL. -/
def Obligations.ExchangesAndSphl : Prop :=
  ∀ s : State,
    encode .xchg = [0xEB] ∧ encode .xthl = [0xE3] ∧ encode .sphl = [0xF9] ∧
    (∃ t, exec .xchg s = .next t ∧ t.h = s.d ∧ t.d = s.h ∧ t.l = s.e ∧ t.e = s.l ∧
      Frame { regs := [.d, .e, .h, .l] } s t) ∧
    (∃ t, exec .xthl s = .next t ∧ t.l = s.byteAt s.sp ∧ t.h = s.byteAt (s.sp + 1) ∧ t.byteAt s.sp = s.l ∧
      t.byteAt (s.sp + 1) = s.h ∧ Frame { regs := [.h, .l], bytes := [s.sp, s.sp + 1] } s t) ∧
    (∃ t, exec .sphl s = .next t ∧ t.sp = joinBytes s.h s.l ∧ Frame { sp := true } s t)

/-! ## Eight-bit arithmetic and logic -/

/-- 00_scope.md R12, 10_state.md R30, R33: Sign is bit 7, Zero that the byte is 0, Parity that the number of its 1 bits
is even; the eight conditions by their codes; the flag byte's bits and what unpacking takes; and the two consequences the
spec itself marks as derived from R33, unpacking a packed byte and packing an unpacked one. -/
def Obligations.FlagsDescribeTestAndPack : Prop :=
  (∀ v : Byte,
    signOf v = decide (128 ≤ v.toNat) ∧ zeroOf v = decide (v.toNat = 0) ∧
    parityOf v =
      decide ((v.toNat % 2 + v.toNat / 2 % 2 + v.toNat / 4 % 2 + v.toNat / 8 % 2 + v.toNat / 16 % 2 + v.toNat / 32 % 2 +
        v.toNat / 64 % 2 + v.toNat / 128) % 2 = 0) ∧
    ∀ ac cy, szpFlags v ac cy = { s := signOf v, z := zeroOf v, ac := ac, p := parityOf v, cy := cy }) ∧
  (∀ (f : Flags) (k : Cond),
    f.holds k =
      (match k.code.toNat with
      | 0 => !f.z
      | 1 => f.z
      | 2 => !f.cy
      | 3 => f.cy
      | 4 => !f.p
      | 5 => f.p
      | 6 => !f.s
      | _ => f.s)) ∧
  (∀ f : Flags,
    f.toByte.toNat = f.s.toNat * 128 + f.z.toNat * 64 + f.ac.toNat * 16 + f.p.toNat * 4 + 2 + f.cy.toNat ∧
    Flags.ofByte f.toByte = f) ∧
  ∀ v : Byte,
    Flags.ofByte v = { s := v.getLsbD 7, z := v.getLsbD 6, ac := v.getLsbD 4, p := v.getLsbD 2, cy := v.getLsbD 0 } ∧
    (Flags.ofByte v).toByte = (v &&& 0xD5) ||| 0x02

/-- 41_alu8.md R121, R127 to R130: ADD and ADC with a register or M, ADI and ACI; CY and AC are the carries out of bits
7 and 3 of the exact sum. And what the operand of every such form is: a register, or the byte at HL. -/
def Obligations.AdditionWritesSumAndCarries : Prop :=
  (∀ (s : State) (r : Reg), s.src8 (.reg r) = s.reg r ∧ s.src8 .m = s.byteAt (joinBytes s.h s.l)) ∧
  (∀ o : Operand, encode (Instr.alu .add o) = [0b10000#5 ++ o.code] ∧ encode (Instr.alu .adc o) = [0b10001#5 ++ o.code]) ∧
  (∀ v : Byte, encode (.adi v) = [0xC6, v] ∧ encode (.aci v) = [0xCE, v]) ∧
  ∀ (s : State), ∀ op ∈ [AluOp.add, AluOp.adc], ∀ (i : Instr) (v : Byte),
    ((∃ o : Operand, i = Instr.alu op o ∧ v = s.src8 o) ∨ i = Instr.aluImm op v) →
    ∃ t, exec i s = .next t ∧
      t.a.toNat = (s.a.toNat + v.toNat + (if op = .adc then s.flags.cy.toNat else 0)) % 256 ∧
      t.flags = szpFlags t.a
        (decide (s.a.toNat % 16 + v.toNat % 16 + (if op = .adc then s.flags.cy.toNat else 0) > 15))
        (decide (s.a.toNat + v.toNat + (if op = .adc then s.flags.cy.toNat else 0) > 255)) ∧
      Frame { regs := [.a], flags := true } s t

/-- 41_alu8.md R122, R131 to R134: SUB and SBB with a register or M, SUI and SBI; CY is the borrow, AC is set exactly
when there is no borrow out of bit 3. -/
def Obligations.SubtractionWritesDifferenceAndBorrows : Prop :=
  (∀ o : Operand, encode (Instr.alu .sub o) = [0b10010#5 ++ o.code] ∧ encode (Instr.alu .sbb o) = [0b10011#5 ++ o.code]) ∧
  (∀ v : Byte, encode (.sui v) = [0xD6, v] ∧ encode (.sbi v) = [0xDE, v]) ∧
  ∀ (s : State), ∀ op ∈ [AluOp.sub, AluOp.sbb], ∀ (i : Instr) (v : Byte),
    ((∃ o : Operand, i = Instr.alu op o ∧ v = s.src8 o) ∨ i = Instr.aluImm op v) →
    ∃ t, exec i s = .next t ∧
      (t.a.toNat : Int) =
        ((s.a.toNat : Int) - v.toNat - (if op = .sbb then s.flags.cy.toNat else 0 : Nat)) % 256 ∧
      t.flags = szpFlags t.a
        (decide (s.a.toNat % 16 + (255 - v.toNat) % 16 + (1 - (if op = .sbb then s.flags.cy.toNat else 0)) > 15))
        (decide (s.a.toNat < v.toNat + (if op = .sbb then s.flags.cy.toNat else 0))) ∧
      (t.flags.ac = !decide (s.a.toNat % 16 < v.toNat % 16 + (if op = .sbb then s.flags.cy.toNat else 0))) ∧
      Frame { regs := [.a], flags := true } s t

/-- 41_alu8.md R141, R142: CMP with a register or M and CPI write the flags of the difference and no register. -/
def Obligations.CompareWritesFlagsOnly : Prop :=
  (∀ o : Operand, encode (Instr.alu .cmp o) = [0b10111#5 ++ o.code]) ∧ (∀ v : Byte, encode (.cpi v) = [0xFE, v]) ∧
  ∀ (s : State) (i : Instr) (v : Byte),
    ((∃ o : Operand, i = Instr.alu .cmp o ∧ v = s.src8 o) ∨ i = .cpi v) →
    ∃ t, exec i s = .next t ∧
      t.flags = szpFlags (s.a - v) (decide (s.a.toNat % 16 + (255 - v.toNat) % 16 + 1 > 15))
        (decide (s.a.toNat < v.toNat)) ∧
      Frame { flags := true } s t

/-- 41_alu8.md R124: after a compare Zero says equal and Carry says less, as unsigned numbers; a subtraction or compare
of A with itself leaves Zero set, Carry clear and AuxCarry set. -/
def Obligations.CompareOrdersUnsigned : Prop :=
  ∀ s : State,
    (∀ o : Operand, ∃ t, exec (Instr.alu .cmp o) s = .next t ∧ (t.flags.z = true ↔ s.a = s.src8 o) ∧
      (t.flags.cy = true ↔ s.a.toNat < (s.src8 o).toNat) ∧ t.a = s.a) ∧
    (∀ v : Byte, ∃ t, exec (.cpi v) s = .next t ∧ (t.flags.z = true ↔ s.a = v) ∧
      (t.flags.cy = true ↔ s.a.toNat < v.toNat) ∧ t.a = s.a) ∧
    ∀ op ∈ [AluOp.sub, AluOp.cmp], ∃ t, exec (Instr.alu op (.reg .a)) s = .next t ∧
      t.flags = { s := false, z := true, ac := true, p := true, cy := false } ∧ t.a = if op = .sub then 0 else s.a

/-- 41_alu8.md R125, R135 to R140: ANA, XRA, ORA with a register or M and ANI, XRI, ORI: Carry is cleared, AuxCarry is
forced true by AND and false by XOR and OR, whatever the operands. -/
def Obligations.LogicForcesTheCarries : Prop :=
  (∀ o : Operand, encode (Instr.alu .ana o) = [0b10100#5 ++ o.code] ∧
    encode (Instr.alu .xra o) = [0b10101#5 ++ o.code] ∧ encode (Instr.alu .ora o) = [0b10110#5 ++ o.code]) ∧
  (∀ v : Byte, encode (.ani v) = [0xE6, v] ∧ encode (.xri v) = [0xEE, v] ∧ encode (.ori v) = [0xF6, v]) ∧
  ∀ (s : State), ∀ op ∈ [AluOp.ana, AluOp.xra, AluOp.ora], ∀ (i : Instr) (v : Byte),
    ((∃ o : Operand, i = Instr.alu op o ∧ v = s.src8 o) ∨ i = Instr.aluImm op v) →
    ∃ t, exec i s = .next t ∧
      t.a = (if op = .ana then s.a &&& v else if op = .xra then s.a ^^^ v else s.a ||| v) ∧
      t.flags = szpFlags t.a (decide (op = .ana)) false ∧ Frame { regs := [.a], flags := true } s t

/-- 41_alu8.md R123: subtraction is addition of the complement with the borrow inverted: the same result and AuxCarry,
Carry complemented, Sign, Zero and Parity alike. -/
def Obligations.SubtractionIsComplementAddition : Prop :=
  ∀ (x y : Byte) (bin : Bool),
    sub8 x y bin = add8 x (255 - y) (!bin) ∧ (subFlags x y bin).ac = (addFlags x (255 - y) (!bin)).ac ∧
    (subFlags x y bin).cy = !(addFlags x (255 - y) (!bin)).cy ∧ (subFlags x y bin).s = (addFlags x (255 - y) (!bin)).s ∧
    (subFlags x y bin).z = (addFlags x (255 - y) (!bin)).z ∧ (subFlags x y bin).p = (addFlags x (255 - y) (!bin)).p

/-! ## Increment, decrement, pair arithmetic -/

/-- 42_incdec_pair.md R150, R151, R153, R154: INR r and INR M; Carry is never touched. -/
def Obligations.IncrementKeepsCarry : Prop :=
  ∀ s : State,
    (∀ r : Reg, encode (Instr.inrR r) = [0b00#2 ++ r.code ++ 0b100#3] ∧
      ∃ t, exec (Instr.inrR r) s = .next t ∧ (t.reg r).toNat = ((s.reg r).toNat + 1) % 256 ∧
        t.flags = szpFlags (t.reg r) (decide ((t.reg r).toNat % 16 = 0)) s.flags.cy ∧
        Frame { regs := [r], flags := true } s t) ∧
    (encode .inrM = [0x34] ∧
      ∃ t, exec .inrM s = .next t ∧
        (t.byteAt (joinBytes s.h s.l)).toNat = ((s.byteAt (joinBytes s.h s.l)).toNat + 1) % 256 ∧
        t.flags = szpFlags (t.byteAt (joinBytes s.h s.l))
          (decide ((t.byteAt (joinBytes s.h s.l)).toNat % 16 = 0)) s.flags.cy ∧
        Frame { bytes := [joinBytes s.h s.l], flags := true } s t)

/-- 42_incdec_pair.md R150, R151, R155, R156: DCR r and DCR M; Carry is never touched. -/
def Obligations.DecrementKeepsCarry : Prop :=
  ∀ s : State,
    (∀ r : Reg, encode (Instr.dcrR r) = [0b00#2 ++ r.code ++ 0b101#3] ∧
      ∃ t, exec (Instr.dcrR r) s = .next t ∧ (t.reg r).toNat = ((s.reg r).toNat + 255) % 256 ∧
        t.flags = szpFlags (t.reg r) (decide ((t.reg r).toNat % 16 ≠ 15)) s.flags.cy ∧
        Frame { regs := [r], flags := true } s t) ∧
    (encode .dcrM = [0x35] ∧
      ∃ t, exec .dcrM s = .next t ∧
        (t.byteAt (joinBytes s.h s.l)).toNat = ((s.byteAt (joinBytes s.h s.l)).toNat + 255) % 256 ∧
        t.flags = szpFlags (t.byteAt (joinBytes s.h s.l))
          (decide ((t.byteAt (joinBytes s.h s.l)).toNat % 16 ≠ 15)) s.flags.cy ∧
        Frame { bytes := [joinBytes s.h s.l], flags := true } s t)

/-- 42_incdec_pair.md R157, R158: INX and DCX on BC, DE, HL and SP; no flag records the wrap. -/
def Obligations.PairIncrementWritesNoFlag : Prop :=
  ∀ s : State,
    (∀ p : RegPair,
      (encode (Instr.inx (.rp p)) = [0b00#2 ++ p.code ++ 0b0011#4] ∧
        ∃ t, exec (Instr.inx (.rp p)) s = .next t ∧ (t.rp p).toNat = ((s.rp p).toNat + 1) % 65536 ∧
          Frame { regs := [p.high, p.low] } s t) ∧
      (encode (Instr.dcx (.rp p)) = [0b00#2 ++ p.code ++ 0b1011#4] ∧
        ∃ t, exec (Instr.dcx (.rp p)) s = .next t ∧ (t.rp p).toNat = ((s.rp p).toNat + 65535) % 65536 ∧
          Frame { regs := [p.high, p.low] } s t)) ∧
    (encode (Instr.inx .sp) = [0x33] ∧
      ∃ t, exec (Instr.inx .sp) s = .next t ∧ t.sp.toNat = (s.sp.toNat + 1) % 65536 ∧ Frame { sp := true } s t) ∧
    (encode (Instr.dcx .sp) = [0x3B] ∧
      ∃ t, exec (Instr.dcx .sp) s = .next t ∧ t.sp.toNat = (s.sp.toNat + 65535) % 65536 ∧ Frame { sp := true } s t)

/-- 42_incdec_pair.md R159: DAD adds BC, DE, HL or SP to HL and writes Carry alone; and what the four pairs are. -/
def Obligations.DadAddsIntoHl : Prop :=
  ∀ (p : Pair) (s : State),
    s.pair p = (match p with
      | .rp .bc => joinBytes s.b s.c
      | .rp .de => joinBytes s.d s.e
      | .rp .hl => joinBytes s.h s.l
      | .sp => s.sp) ∧
    encode (Instr.dad p) = [0b00#2 ++ p.code ++ 0b1001#4] ∧
    ∃ t, exec (Instr.dad p) s = .next t ∧ (t.rp .hl).toNat = ((s.rp .hl).toNat + (s.pair p).toNat) % 65536 ∧
      t.flags = { s.flags with cy := decide ((s.rp .hl).toNat + (s.pair p).toNat > 65535) } ∧
      Frame { regs := [.h, .l], flags := true } s t

/-! ## Decimal adjust, rotates, carry -/

/-- 43_accumulator.md R165: DAA, every intermediate a natural number: the low step, the comparison of the sum before it
is reduced, the high step, and the five flags. -/
def Obligations.DaaFollowsTheAlgorithm : Prop :=
  ∀ (s : State) (low high : Bool) (t1 t2 : Nat),
    low = (s.flags.ac || decide (s.a.toNat % 16 > 9)) →
    t1 = (if low then s.a.toNat + 6 else s.a.toNat) →
    high = (s.flags.cy || decide (t1 > 0x99)) →
    t2 = (if high then t1 + 0x60 else t1) →
    encode .daa = [0x27] ∧
    ∃ t, exec .daa s = .next t ∧ t.a.toNat = t2 % 256 ∧
      t.flags = szpFlags t.a (if low then decide (s.a.toNat % 16 + 6 > 15) else false)
        (if high then true else s.flags.cy) ∧
      t.flags.cy = high ∧ Frame { regs := [.a], flags := true } s t

/-- 43_accumulator.md section 1, the use of DAA the spec derives: after ADD, ADC, ADI or ACI of two bytes of two decimal
digits each, DAA leaves the two low digits of the decimal sum in A and the decimal carry in Carry. -/
def Obligations.DaaAdjustsADecimalSum : Prop :=
  ∀ (s : State), ∀ op ∈ [AluOp.add, AluOp.adc], ∀ (i : Instr) (v : Byte) (x1 x0 y1 y0 : Nat),
    ((∃ o : Operand, i = Instr.alu op o ∧ v = s.src8 o) ∨ i = Instr.aluImm op v) →
    x1 ≤ 9 → x0 ≤ 9 → y1 ≤ 9 → y0 ≤ 9 → s.a.toNat = 16 * x1 + x0 → v.toNat = 16 * y1 + y0 →
    ∃ t u, exec i s = .next t ∧ exec .daa t = .next u ∧ u.a.toNat / 16 ≤ 9 ∧ u.a.toNat % 16 ≤ 9 ∧
      10 * (u.a.toNat / 16) + u.a.toNat % 16 =
        (10 * x1 + x0 + (10 * y1 + y0) + (if op = .adc then s.flags.cy.toNat else 0)) % 100 ∧
      u.flags.cy = decide (10 * x1 + x0 + (10 * y1 + y0) + (if op = .adc then s.flags.cy.toNat else 0) > 99)

/-- 43_accumulator.md R167 to R171: the four rotates, by one bit; Carry takes the bit rotated out, and S, Z, AC, P
stay. -/
def Obligations.RotatesMoveOneBit : Prop :=
  ∀ s : State,
    (encode .rlc = [0x07] ∧ ∃ t, exec .rlc s = .next t ∧
      t.a.toNat = s.a.toNat * 2 % 256 + s.a.toNat / 128 ∧ t.a = s.a.rotateLeft 1 ∧
      t.flags = { s.flags with cy := decide (s.a.toNat / 128 = 1) } ∧ Frame { regs := [.a], flags := true } s t) ∧
    (encode .rrc = [0x0F] ∧ ∃ t, exec .rrc s = .next t ∧
      t.a.toNat = s.a.toNat / 2 + 128 * (s.a.toNat % 2) ∧ t.a = s.a.rotateRight 1 ∧
      t.flags = { s.flags with cy := decide (s.a.toNat % 2 = 1) } ∧ Frame { regs := [.a], flags := true } s t) ∧
    (encode .ral = [0x17] ∧ ∃ t, exec .ral s = .next t ∧
      t.a.toNat = s.a.toNat * 2 % 256 + s.flags.cy.toNat ∧
      t.flags = { s.flags with cy := decide (s.a.toNat / 128 = 1) } ∧ Frame { regs := [.a], flags := true } s t) ∧
    (encode .rar = [0x1F] ∧ ∃ t, exec .rar s = .next t ∧
      t.a.toNat = s.a.toNat / 2 + 128 * s.flags.cy.toNat ∧
      t.flags = { s.flags with cy := decide (s.a.toNat % 2 = 1) } ∧ Frame { regs := [.a], flags := true } s t)

/-- 43_accumulator.md R173 to R175: CMA inverts every bit of A and writes no flag; STC and CMC write Carry alone. -/
def Obligations.ComplementAndCarryInstructions : Prop :=
  ∀ s : State,
    (encode .cma = [0x2F] ∧ ∃ t, exec .cma s = .next t ∧ t.a.toNat = 255 - s.a.toNat ∧
      Frame { regs := [.a] } s t) ∧
    (encode .stc = [0x37] ∧ ∃ t, exec .stc s = .next t ∧ t.flags = { s.flags with cy := true } ∧
      Frame { flags := true } s t) ∧
    (encode .cmc = [0x3F] ∧ ∃ t, exec .cmc s = .next t ∧ t.flags = { s.flags with cy := !s.flags.cy } ∧
      Frame { flags := true } s t)

/-! ## Control transfer -/

/-- 44_control.md R182 to R185: JMP and its alias byte, the conditional jumps taken and not taken, and PCHL. -/
def Obligations.JumpsSetPc : Prop :=
  ∀ (low high : Byte) (s : State),
    (encode (.jmp (joinBytes high low)) = [0xC3, low, high] ∧
      encode (.jmpCB (joinBytes high low)) = [0xCB, low, high] ∧
      ∀ i ∈ Instr.jmpForms (joinBytes high low), ∃ t, exec i s = .next t ∧ t.pc = joinBytes high low ∧
        Frame { pc := true } s t) ∧
    (∀ k : Cond, encode (Instr.jcc k (joinBytes high low)) = [0b11#2 ++ k.code ++ 0b010#3, low, high] ∧
      ∃ t, exec (Instr.jcc k (joinBytes high low)) s = .next t ∧
        t.pc = (if s.flags.holds k then joinBytes high low else s.pc) ∧ Frame { pc := true } s t) ∧
    (encode .pchl = [0xE9] ∧ ∃ t, exec .pchl s = .next t ∧ t.pc = joinBytes s.h s.l ∧ Frame { pc := true } s t)

/-- 44_control.md R186 to R188: CALL and its three alias bytes, and the conditional calls: a call taken pushes PC, high
byte first, and goes to its operand; one not taken changes nothing. -/
def Obligations.CallsPushTheReturnAddress : Prop :=
  ∀ (low high : Byte) (s : State),
    (encode (.call (joinBytes high low)) = [0xCD, low, high] ∧
      encode (.callDD (joinBytes high low)) = [0xDD, low, high] ∧
      encode (.callED (joinBytes high low)) = [0xED, low, high] ∧
      encode (.callFD (joinBytes high low)) = [0xFD, low, high] ∧
      ∀ i ∈ Instr.callForms (joinBytes high low), ∃ t, exec i s = .next t ∧ t.pc = joinBytes high low ∧
        t.byteAt (s.sp - 1) = hiByte s.pc ∧ t.byteAt (s.sp - 2) = loByte s.pc ∧ t.sp = s.sp - 2 ∧
        Frame { pc := true, sp := true, bytes := pushedBytes s.sp } s t) ∧
    (∀ k : Cond, encode (Instr.ccc k (joinBytes high low)) = [0b11#2 ++ k.code ++ 0b100#3, low, high] ∧
      ∃ t, exec (Instr.ccc k (joinBytes high low)) s = .next t ∧
        (s.flags.holds k = true → t.pc = joinBytes high low ∧ t.byteAt (s.sp - 1) = hiByte s.pc ∧
          t.byteAt (s.sp - 2) = loByte s.pc ∧ t.sp = s.sp - 2 ∧
          Frame { pc := true, sp := true, bytes := pushedBytes s.sp } s t) ∧
        (s.flags.holds k = false → Frame {} s t))

/-- 44_control.md R189 to R191: RET and its alias byte, and the conditional returns: a return taken pops PC, low byte
first; one not taken changes nothing. -/
def Obligations.ReturnsPopPc : Prop :=
  ∀ s : State,
    (encode .ret = [0xC9] ∧ encode .retD9 = [0xD9] ∧
      ∀ i ∈ Instr.retForms, ∃ t, exec i s = .next t ∧
        t.pc.toNat = (s.byteAt (s.sp + 1)).toNat * 256 + (s.byteAt s.sp).toNat ∧ t.sp = s.sp + 2 ∧
        Frame { pc := true, sp := true } s t) ∧
    (∀ k : Cond, encode (Instr.rcc k) = [0b11#2 ++ k.code ++ 0b000#3] ∧
      ∃ t, exec (Instr.rcc k) s = .next t ∧
        (s.flags.holds k = true →
          t.pc.toNat = (s.byteAt (s.sp + 1)).toNat * 256 + (s.byteAt s.sp).toNat ∧ t.sp = s.sp + 2 ∧
          Frame { pc := true, sp := true } s t) ∧
        (s.flags.holds k = false → Frame {} s t))

/-- 44_control.md R192: RST n pushes PC and goes to 8 * n; IE and `halted` stay. -/
def Obligations.RestartCallsItsVector : Prop :=
  ∀ (n : BitVec 3) (s : State),
    encode (Instr.rst n) = [0b11#2 ++ n ++ 0b111#3] ∧
    ∃ t, exec (Instr.rst n) s = .next t ∧ t.pc.toNat = 8 * n.toNat ∧ t.byteAt (s.sp - 1) = hiByte s.pc ∧
      t.byteAt (s.sp - 2) = loByte s.pc ∧ t.sp = s.sp - 2 ∧
      Frame { pc := true, sp := true, bytes := pushedBytes s.sp } s t

/-- 44_control.md R181, R189: a return right after a call or restart comes back to the return address with SP as it was,
wherever the stack stands. -/
def Obligations.ReturnUndoesACall : Prop :=
  ∀ (s : State) (i : Instr) (k : Word) (n : BitVec 3) (t : State),
    (i ∈ Instr.callForms k ∨ i = Instr.rst n) → exec i s = .next t →
    ∀ j ∈ Instr.retForms, ∃ u, exec j t = .next u ∧ u.pc = s.pc ∧ u.sp = s.sp ∧
      Frame { bytes := pushedBytes s.sp } s u

/-! ## Stack -/

/-- 45_stack.md R202, R203: PUSH of a pair and of PSW. -/
def Obligations.PushStoresTheWord : Prop :=
  ∀ s : State,
    (∀ p : RegPair, encode (Instr.push p) = [0b11#2 ++ p.code ++ 0b0101#4] ∧
      ∃ t, exec (Instr.push p) s = .next t ∧ t.byteAt (s.sp - 1) = s.reg p.high ∧
        t.byteAt (s.sp - 2) = s.reg p.low ∧ t.sp = s.sp - 2 ∧
        Frame { sp := true, bytes := pushedBytes s.sp } s t) ∧
    (encode .pushPsw = [0xF5] ∧
      ∃ t, exec .pushPsw s = .next t ∧ t.byteAt (s.sp - 1) = s.a ∧
        (t.byteAt (s.sp - 2)).toNat = s.flags.s.toNat * 128 + s.flags.z.toNat * 64 + s.flags.ac.toNat * 16 +
          s.flags.p.toNat * 4 + 2 + s.flags.cy.toNat ∧
        t.sp = s.sp - 2 ∧ Frame { sp := true, bytes := pushedBytes s.sp } s t)

/-- 45_stack.md R204, R205: POP of a pair and of PSW. -/
def Obligations.PopLoadsTheWord : Prop :=
  ∀ s : State,
    (∀ p : RegPair, encode (Instr.pop p) = [0b11#2 ++ p.code ++ 0b0001#4] ∧
      ∃ t, exec (Instr.pop p) s = .next t ∧ t.reg p.low = s.byteAt s.sp ∧ t.reg p.high = s.byteAt (s.sp + 1) ∧
        t.sp = s.sp + 2 ∧ Frame { regs := [p.high, p.low], sp := true } s t) ∧
    (encode .popPsw = [0xF1] ∧
      ∃ t, exec .popPsw s = .next t ∧ t.a = s.byteAt (s.sp + 1) ∧
        t.flags = { s := (s.byteAt s.sp).getLsbD 7, z := (s.byteAt s.sp).getLsbD 6, ac := (s.byteAt s.sp).getLsbD 4,
                    p := (s.byteAt s.sp).getLsbD 2, cy := (s.byteAt s.sp).getLsbD 0 } ∧
        t.sp = s.sp + 2 ∧ Frame { regs := [.a], flags := true, sp := true } s t)

/-- 45_stack.md R206: PUSH then POP gives the pair, or A and the flags, back; POP PSW then PUSH PSW leaves the high byte
and fixes the reserved bits of the low byte. For every SP, wrapping or not. -/
def Obligations.PushAndPopRoundTrip : Prop :=
  ∀ s : State,
    (∀ p : RegPair, ∃ t u, exec (Instr.push p) s = .next t ∧ exec (Instr.pop p) t = .next u ∧
      u.byteAt (s.sp - 1) = s.reg p.high ∧ u.byteAt (s.sp - 2) = s.reg p.low ∧
      Frame { bytes := pushedBytes s.sp } s u) ∧
    (∃ t u, exec .pushPsw s = .next t ∧ exec .popPsw t = .next u ∧ Frame { bytes := pushedBytes s.sp } s u) ∧
    (∃ t u, exec .popPsw s = .next t ∧ exec .pushPsw t = .next u ∧ u.sp = s.sp ∧
      u.byteAt s.sp = (s.byteAt s.sp &&& 0xD5) ||| 0x02 ∧ u.byteAt (s.sp + 1) = s.byteAt (s.sp + 1) ∧
      ((∀ k, u.byteAt k = s.byteAt k) ↔
        (s.byteAt s.sp).getLsbD 1 = true ∧ (s.byteAt s.sp).getLsbD 3 = false ∧ (s.byteAt s.sp).getLsbD 5 = false))

/-! ## Input and output -/

/-- 46_io_ports.md R211, R213, R214, R216, R222: IN loads what the port mux answers, and changes no device. -/
def Obligations.InReadsThePortMux : Prop :=
  ∀ (p : Byte) (s : State),
    encode (.inPort p) = [0xDB, p] ∧
    ∃ t, exec (.inPort p) s = .next t ∧
      (p = 0 → t.a = 0x06) ∧ (p = 1 → t.a = s.port1) ∧ (p = 2 → t.a = s.port2) ∧
      (p = 3 → t.a.toNat = s.shiftData.toNat / 2 ^ (8 - s.shiftOffset.toNat) % 256) ∧
      (4 ≤ p.toNat → t.a = 0) ∧ Frame { regs := [.a] } s t

/-- 46_io_ports.md R212, R215, R217, R218: OUT to port 2 sets the offset, to port 4 feeds the shifter, to any other port
changes nothing at all. -/
def Obligations.OutWritesThePortMux : Prop :=
  ∀ (p : Byte) (s : State),
    encode (.outPort p) = [0xD3, p] ∧
    ∃ t, exec (.outPort p) s = .next t ∧
      (p = 2 → t.shiftOffset.toNat = s.a.toNat % 8 ∧ Frame { shiftOffset := true } s t) ∧
      (p = 4 → t.shiftData.toNat = s.a.toNat * 256 + s.shiftData.toNat / 256 ∧ Frame { shiftData := true } s t) ∧
      (p ≠ 2 → p ≠ 4 → Frame {} s t)

/-- 46_io_ports.md R219: two bytes written to port 4 and an offset to port 2 fix what port 3 reads, whatever the shifter
held before. -/
def Obligations.ShifterForgetsItsPast : Prop :=
  ∀ (s : State) (v1 v2 n : Byte),
    ∃ t u w x, exec (.outPort 4) { s with a := v1 } = .next t ∧ exec (.outPort 4) { t with a := v2 } = .next u ∧
      exec (.outPort 2) { u with a := n } = .next w ∧ exec (.inPort 3) w = .next x ∧
      x.shiftData.toNat = v2.toNat * 256 + v1.toNat ∧
      x.a.toNat = (v2.toNat * 256 + v1.toNat) / 2 ^ (8 - n.toNat % 8) % 256

/-- 46_io_ports.md R221: an input setter drives its mask's bits of port 1 on or off and leaves the others; it changes
nothing else, and the next IN 1 reads the effect. The masks are any bytes (log 9). -/
def Obligations.SettersDriveTheirMask : Prop :=
  ∀ (s : State) (input : Input) (on : Bool),
    (s.setInput input on).port1 =
      (if on then s.port1 ||| Config.inputMask input else s.port1 &&& (255 - Config.inputMask input)) ∧
    (∀ k < 8, (s.setInput input on).port1.getLsbD k =
      if (Config.inputMask input).getLsbD k then on else s.port1.getLsbD k) ∧
    s.setInput input on = { s with port1 := (s.setInput input on).port1 } ∧
    ∃ u, exec (.inPort 1) (s.setInput input on) = .next u ∧ u.a = (s.setInput input on).port1

/-! ## NOP, HLT, EI, DI -/

/-- 47_system.md R230, R231: NOP and its seven alias bytes change nothing beyond the PC advance of the fetch. -/
def Obligations.NopFormsChangeNothing : Prop :=
  Instr.nopForms.map encode = [[0x00], [0x08], [0x10], [0x18], [0x20], [0x28], [0x30], [0x38]] ∧
    ∀ i ∈ Instr.nopForms, ∀ s : State, exec i s = .next s

/-- 47_system.md R232: HLT sets `halted` alone; halted with IE false, no turn but the host's reset starts the
interpreter again or moves PC. -/
def Obligations.HltStopsTheInterpreter : Prop :=
  encode .hlt = [0x76] ∧
    (∀ s : State, ∃ t, exec .hlt s = .next t ∧ t.halted = true ∧ Frame { halted := true } s t) ∧
    ∀ s t : State, s.halted = true → s.ie = false → s.script.head? ≠ some .resetCpu → step s = .next t →
      t.halted = true ∧ t.ie = false ∧ t.pc = s.pc ∧ t.sp = s.sp ∧ t.mem = s.mem ∧ t.flags = s.flags ∧
      ∀ r, t.reg r = s.reg r

/-- 47_system.md R233, R234: EI and DI set and clear IE alone, at once: a request right after EI is accepted, one right
after DI changes nothing. -/
def Obligations.EiAndDiActAtOnce : Prop :=
  ∀ s : State,
    (encode .ei = [0xFB] ∧ ∃ t, exec .ei s = .next t ∧ t.ie = true ∧ Frame { ie := true } s t ∧
      ∀ v, (t.requestInterrupt v).pc.toNat = 8 * v.toNat) ∧
    (encode .di = [0xF3] ∧ ∃ t, exec .di s = .next t ∧ t.ie = false ∧ Frame { ie := true } s t ∧
      ∀ v, t.requestInterrupt v = t)

/-! ## Interrupts and the frame scheduler -/

/-- 60_exceptions.md R243: a request is dropped whole when IE is false; else IE and `halted` are cleared, PC is pushed,
PC goes to 8 * v, and nothing else changes. And the consequence the spec itself marks as derived from R243, R234 and R192:
the effect is that of DI then RST v with `halted` cleared. -/
def Obligations.InterruptRequestEntersItsVector : Prop :=
  ∀ (s : State) (v : BitVec 3),
    (s.ie = false → s.requestInterrupt v = s) ∧
    (s.ie = true → ∃ t, s.requestInterrupt v = t ∧ t.ie = false ∧ t.halted = false ∧
      t.byteAt (s.sp - 1) = hiByte s.pc ∧ t.byteAt (s.sp - 2) = loByte s.pc ∧ t.sp = s.sp - 2 ∧
      t.pc.toNat = 8 * v.toNat ∧
      Frame { ie := true, halted := true, pc := true, sp := true, bytes := pushedBytes s.sp } s t ∧
      ∃ u, exec .di { s with halted := false } = .next u ∧ exec (Instr.rst v) u = .next t)

/-- 60_exceptions.md section 5, as the spec derives it: of two requests in a row the second is dropped. And, by the
model's choice (log 6), a host turn at the head of the schedule performs its action as a step of its own. -/
def Obligations.HostTurnsPerformTheirAction : Prop :=
  (∀ (s : State) (v w : BitVec 3), (s.requestInterrupt v).requestInterrupt w = s.requestInterrupt v) ∧
  ∀ (s : State) (rest : List Turn),
    (∀ v, step { s with script := .request v :: rest } = .next ({ s with script := rest }.requestInterrupt v)) ∧
    (∀ input on, step { s with script := .setInput input on :: rest } =
      .next ({ s with script := rest }.setInput input on)) ∧
    step { s with script := .resetCpu :: rest } = .next { s with script := rest }.resetCpu

/-- 60_exceptions.md R251, R254: RET at the end of a handler resumes the interrupted program: the PC and SP of the
boundary, every register and flag kept, IE still false. -/
def Obligations.RetResumesTheInterruptedProgram : Prop :=
  ∀ (s : State) (v : BitVec 3), s.ie = true →
    ∃ u, exec .ret (s.requestInterrupt v) = .next u ∧ u.pc = s.pc ∧ u.sp = s.sp ∧ u.ie = false ∧ u.halted = false ∧
      Frame { ie := true, halted := true, bytes := pushedBytes s.sp } s u

/-- 60_exceptions.md section 4, with the request as a turn of its own (the model's choice, log 7): under `frame`, once
the accumulator has reached 16667 the machine's next turn is the scheduler's request, vector 1 after the first half,
vector 2 after the second, and the accumulator restarts from 0; below 16667 the interpreter steps and the cycles it
reports are added. -/
def Obligations.FrameSchedulerRequestsAtTheBudget : Prop :=
  ∀ s : State, s.intSched = .frame → s.script = [] →
    (16667 ≤ s.cycleAcc →
      (s.half = .first → step s = .next { s.requestInterrupt 1 with cycleAcc := 0, half := .second }) ∧
      (s.half = .second → step s = .next { s.requestInterrupt 2 with cycleAcc := 0, half := .first })) ∧
    (s.cycleAcc < 16667 → ∃ t, interpret s = .next t ∧
      step s = .next { t with cycleAcc := s.cycleAcc + reportedCycles s } ∧ t.half = s.half)

/-- 70_reset_and_hazards.md R279: under `frame`, an interpreter halted inside a half-frame stays so for ever: with no
action of the host, no number of steps changes anything. -/
def Obligations.HaltUnderTheFrameSchedulerIsForever : Prop :=
  ∀ (s : State) (n : Nat), s.intSched = .frame → s.script = [] → s.halted = true → s.cycleAcc < 16667 →
    Sys2Proof.core.run n s = .next s

/-- 70_reset_and_hazards.md R284, 30_encoding.md R89: the machine's cycle table keeps the constraints whatever the free
constants are, every table that keeps them is one the free constants could give, a step reports the cost of its opcode
byte and 0 when halted; and the suggested table of R285 is one that keeps them. -/
def Obligations.CycleTableIsAnyAllowedTable : Prop :=
  CycleTableOk cyclesOf ∧ (∀ free split, CycleTableOk (cycleTable free split)) ∧
    (∀ t : Byte → Nat, CycleTableOk t → ∃ free split, cycleTable free split = t) ∧
    (∀ s : State, reportedCycles s = if s.halted then 0 else cyclesOf (s.byteAt s.pc)) ∧
    CycleTableOk suggestedCycles

/-! ## Whole-machine rules -/

/-- The invariant: every step keeps it (20_memory.md R50, 60_exceptions.md R247, R249). -/
def Obligations.StepKeepsTheInvariant : Prop := ∀ s t : State, s.Inv → step s = .next t → t.Inv

/-- The invariant holds at reset and at every launch whose schedule suits its `INT_SCHED`. -/
def Obligations.ResetAndLaunchMeetTheInvariant : Prop :=
  State.reset.Inv ∧
    ∀ (p : Launch) (turns : List Turn), (p.intSched = .frame → ∀ v, Turn.request v ∉ turns) →
      (State.launch p turns).Inv

/-- 10_state.md R34, R35: of the instructions only HLT writes `halted` and only EI and DI write IE; and a step that is no
turn of the host sets `halted` only by running HLT. -/
def Obligations.OnlyHltHaltsOnlyEiDiEnable : Prop :=
  (∀ (i : Instr) (s t : State), exec i s = .next t →
    (i ≠ .hlt → t.halted = s.halted) ∧ (i ≠ .ei → i ≠ .di → t.ie = s.ie)) ∧
  ∀ s t : State, step s = .next t → s.halted = false → t.halted = true → s.byteAt s.pc = 0x76

/-- 10_state.md R37 to R39, R41: no instruction writes the input ports or the scheduler; only OUT 4 writes the shifter's
data, only OUT 2 its offset. -/
def Obligations.DevicesChangeOnlyByOut : Prop :=
  ∀ (i : Instr) (s t : State), exec i s = .next t →
    t.port1 = s.port1 ∧ t.port2 = s.port2 ∧ t.intSched = s.intSched ∧ t.cycleAcc = s.cycleAcc ∧ t.half = s.half ∧
    t.script = s.script ∧ (i ≠ .outPort 4 → t.shiftData = s.shiftData) ∧
    (i ≠ .outPort 2 → t.shiftOffset = s.shiftOffset)

/-- 10_state.md R29: AuxCarry is read only by DAA and by PUSH PSW: two states that differ in AuxCarry alone run any
other instruction to states that differ in AuxCarry at most. -/
def Obligations.AuxCarryIsReadOnlyByDaaAndPushPsw : Prop :=
  ∀ (i : Instr) (s t : State) (x : Bool), i ≠ .daa → i ≠ .pushPsw → exec i s = .next t →
    ∃ u, exec i { s with flags := { s.flags with ac := x } } = .next u ∧
      u = { t with flags := { t.flags with ac := u.flags.ac } }
end

