-- ==== Sys2Proof/Laws/Dispatch.lean ====
section
/-! SUPPORT. What `exec` answers for each family of instructions, said once: the arms of a family, whichever constructor
its fields select. -/

namespace Sys2Proof.Machine

theorem exec_movRR (dst src : Reg) (s : State) : exec (Instr.movRR dst src) s = .next (s.movRegs dst src) := by
  cases dst <;> cases src <;> rfl

theorem exec_movRM (dst : Reg) (s : State) : exec (Instr.movRM dst) s = .next (s.movFromMem dst) := by
  cases dst <;> rfl

theorem exec_movMR (src : Reg) (s : State) : exec (Instr.movMR src) s = .next (s.movToMem src) := by
  cases src <;> rfl

theorem exec_mviR (r : Reg) (v : Byte) (s : State) : exec (Instr.mviR r v) s = .next (s.setReg r v) := by
  cases r <;> rfl

theorem exec_lxi (p : Pair) (w : Word) (s : State) : exec (Instr.lxi p w) s = .next (s.setPair p w) := by
  rcases p with (_ | _ | _) | _ <;> rfl

theorem exec_inx (p : Pair) (s : State) : exec (Instr.inx p) s = .next (s.setPair p (s.pair p + 1)) := by
  rcases p with (_ | _ | _) | _ <;> rfl

theorem exec_dcx (p : Pair) (s : State) : exec (Instr.dcx p) s = .next (s.setPair p (s.pair p - 1)) := by
  rcases p with (_ | _ | _) | _ <;> rfl

theorem exec_dad (p : Pair) (s : State) : exec (Instr.dad p) s = .next (s.addToHl (s.pair p)) := by
  rcases p with (_ | _ | _) | _ <;> rfl

theorem exec_inrR (r : Reg) (s : State) : exec (Instr.inrR r) s = .next (s.increment (.reg r)) := by
  cases r <;> rfl

theorem exec_dcrR (r : Reg) (s : State) : exec (Instr.dcrR r) s = .next (s.decrement (.reg r)) := by
  cases r <;> rfl

theorem exec_alu (op : AluOp) (o : Operand) (s : State) :
    exec (Instr.alu op o) s = .next (s.accumulate op (s.src8 o)) := by
  cases op <;> rcases o with (_ | _ | _ | _ | _ | _ | _) | _ <;> rfl

theorem exec_aluImm (op : AluOp) (v : Byte) (s : State) : exec (Instr.aluImm op v) s = .next (s.accumulate op v) := by
  cases op <;> rfl

theorem exec_jcc (cond : Cond) (k : Word) (s : State) : exec (Instr.jcc cond k) s = .next (s.jumpIf cond k) := by
  cases cond <;> rfl

theorem exec_ccc (cond : Cond) (k : Word) (s : State) : exec (Instr.ccc cond k) s = .next (s.callIf cond k) := by
  cases cond <;> rfl

theorem exec_rcc (cond : Cond) (s : State) : exec (Instr.rcc cond) s = .next (s.retIf cond) := by
  cases cond <;> rfl

theorem exec_push (p : RegPair) (s : State) : exec (Instr.push p) s = .next (s.push16 (s.rp p)) := by
  cases p <;> rfl

theorem exec_pop (p : RegPair) (s : State) : exec (Instr.pop p) s = .next (s.setRp p s.stackTop).pop16 := by
  cases p <;> rfl

/-- Every number of three bits is one of eight. -/
theorem restart_cases (n : BitVec 3) : n = 0 ∨ n = 1 ∨ n = 2 ∨ n = 3 ∨ n = 4 ∨ n = 5 ∨ n = 6 ∨ n = 7 := by
  revert n
  decide

theorem exec_rst (n : BitVec 3) (s : State) : exec (Instr.rst n) s = .next (s.call (vectorAddress n)) := by
  rcases restart_cases n with rfl | rfl | rfl | rfl | rfl | rfl | rfl | rfl <;> rfl

theorem exec_nopForms (i : Instr) (h : i ∈ Instr.nopForms) (s : State) : exec i s = .next s := by
  simp only [Instr.nopForms, List.mem_cons, List.not_mem_nil, or_false] at h
  rcases h with rfl | rfl | rfl | rfl | rfl | rfl | rfl | rfl <;> rfl

theorem exec_jmpForms (k : Word) (i : Instr) (h : i ∈ Instr.jmpForms k) (s : State) : exec i s = .next (s.jump k) := by
  simp only [Instr.jmpForms, List.mem_cons, List.not_mem_nil, or_false] at h
  rcases h with rfl | rfl <;> rfl

theorem exec_callForms (k : Word) (i : Instr) (h : i ∈ Instr.callForms k) (s : State) :
    exec i s = .next (s.call k) := by
  simp only [Instr.callForms, List.mem_cons, List.not_mem_nil, or_false] at h
  rcases h with rfl | rfl | rfl | rfl <;> rfl

theorem exec_retForms (i : Instr) (h : i ∈ Instr.retForms) (s : State) : exec i s = .next s.ret := by
  simp only [Instr.retForms, List.mem_cons, List.not_mem_nil, or_false] at h
  rcases h with rfl | rfl <;> rfl

end Sys2Proof.Machine
end

