-- ==== Sys2Proof/Laws/Families.lean ====
section
/-! SUPPORT. Every instruction belongs to one family: a fact about all instructions follows from one fact per family
(`cases i using Instr.byFamily`), which the lemmas `exec_…` of Laws/Dispatch.lean then answer. -/

namespace Sys2Proof.Machine

theorem Instr.byFamily {P : Instr → Prop}
    (movRR : ∀ (dst src : Reg), P (Instr.movRR dst src))
    (movRM : ∀ (dst : Reg), P (Instr.movRM dst))
    (movMR : ∀ (src : Reg), P (Instr.movMR src))
    (mviR : ∀ (r : Reg) (v : Byte), P (Instr.mviR r v))
    (mviM : ∀ (v : Byte), P (.mviM v))
    (lxi : ∀ (p : Pair) (w : Word), P (Instr.lxi p w))
    (lda : ∀ (k : Word), P (.lda k))
    (sta : ∀ (k : Word), P (.sta k))
    (lhld : ∀ (k : Word), P (.lhld k))
    (shld : ∀ (k : Word), P (.shld k))
    (ldaxB : P .ldaxB)
    (ldaxD : P .ldaxD)
    (staxB : P .staxB)
    (staxD : P .staxD)
    (xchg : P .xchg)
    (xthl : P .xthl)
    (sphl : P .sphl)
    (alu : ∀ (op : AluOp) (o : Operand), P (Instr.alu op o))
    (aluImm : ∀ (op : AluOp) (v : Byte), P (Instr.aluImm op v))
    (inrR : ∀ (r : Reg), P (Instr.inrR r))
    (inrM : P .inrM)
    (dcrR : ∀ (r : Reg), P (Instr.dcrR r))
    (dcrM : P .dcrM)
    (inx : ∀ (p : Pair), P (Instr.inx p))
    (dcx : ∀ (p : Pair), P (Instr.dcx p))
    (dad : ∀ (p : Pair), P (Instr.dad p))
    (daa : P .daa)
    (rlc : P .rlc)
    (rrc : P .rrc)
    (ral : P .ral)
    (rar : P .rar)
    (cma : P .cma)
    (stc : P .stc)
    (cmc : P .cmc)
    (jmpForms : ∀ (k : Word) (i : Instr) (_ : i ∈ Instr.jmpForms k), P i)
    (jcc : ∀ (cond : Cond) (k : Word), P (Instr.jcc cond k))
    (pchl : P .pchl)
    (callForms : ∀ (k : Word) (i : Instr) (_ : i ∈ Instr.callForms k), P i)
    (ccc : ∀ (cond : Cond) (k : Word), P (Instr.ccc cond k))
    (retForms : ∀ (i : Instr) (_ : i ∈ Instr.retForms), P i)
    (rcc : ∀ (cond : Cond), P (Instr.rcc cond))
    (rst : ∀ (n : BitVec 3), P (Instr.rst n))
    (push : ∀ (p : RegPair), P (Instr.push p))
    (pushPsw : P .pushPsw)
    (pop : ∀ (p : RegPair), P (Instr.pop p))
    (popPsw : P .popPsw)
    (inPort : ∀ (p : Byte), P (.inPort p))
    (outPort : ∀ (p : Byte), P (.outPort p))
    (nopForms : ∀ (i : Instr) (_ : i ∈ Instr.nopForms), P i)
    (hlt : P .hlt)
    (ei : P .ei)
    (di : P .di) :
    ∀ i, P i
  | .nop => nopForms _ (by decide)
  | .lxiB w => lxi (.rp .bc) w
  | .staxB => staxB
  | .inxB => inx (.rp .bc)
  | .inrB => inrR .b
  | .dcrB => dcrR .b
  | .mviB d => mviR .b d
  | .rlc => rlc
  | .nop08 => nopForms _ (by decide)
  | .dadB => dad (.rp .bc)
  | .ldaxB => ldaxB
  | .dcxB => dcx (.rp .bc)
  | .inrC => inrR .c
  | .dcrC => dcrR .c
  | .mviC d => mviR .c d
  | .rrc => rrc
  | .nop10 => nopForms _ (by decide)
  | .lxiD w => lxi (.rp .de) w
  | .staxD => staxD
  | .inxD => inx (.rp .de)
  | .inrD => inrR .d
  | .dcrD => dcrR .d
  | .mviD d => mviR .d d
  | .ral => ral
  | .nop18 => nopForms _ (by decide)
  | .dadD => dad (.rp .de)
  | .ldaxD => ldaxD
  | .dcxD => dcx (.rp .de)
  | .inrE => inrR .e
  | .dcrE => dcrR .e
  | .mviE d => mviR .e d
  | .rar => rar
  | .nop20 => nopForms _ (by decide)
  | .lxiH w => lxi (.rp .hl) w
  | .shld a => shld a
  | .inxH => inx (.rp .hl)
  | .inrH => inrR .h
  | .dcrH => dcrR .h
  | .mviH d => mviR .h d
  | .daa => daa
  | .nop28 => nopForms _ (by decide)
  | .dadH => dad (.rp .hl)
  | .lhld a => lhld a
  | .dcxH => dcx (.rp .hl)
  | .inrL => inrR .l
  | .dcrL => dcrR .l
  | .mviL d => mviR .l d
  | .cma => cma
  | .nop30 => nopForms _ (by decide)
  | .lxiSp w => lxi .sp w
  | .sta a => sta a
  | .inxSp => inx .sp
  | .inrM => inrM
  | .dcrM => dcrM
  | .mviM d => mviM d
  | .stc => stc
  | .nop38 => nopForms _ (by decide)
  | .dadSp => dad .sp
  | .lda a => lda a
  | .dcxSp => dcx .sp
  | .inrA => inrR .a
  | .dcrA => dcrR .a
  | .mviA d => mviR .a d
  | .cmc => cmc
  | .movBB => movRR .b .b
  | .movBC => movRR .b .c
  | .movBD => movRR .b .d
  | .movBE => movRR .b .e
  | .movBH => movRR .b .h
  | .movBL => movRR .b .l
  | .movBM => movRM .b
  | .movBA => movRR .b .a
  | .movCB => movRR .c .b
  | .movCC => movRR .c .c
  | .movCD => movRR .c .d
  | .movCE => movRR .c .e
  | .movCH => movRR .c .h
  | .movCL => movRR .c .l
  | .movCM => movRM .c
  | .movCA => movRR .c .a
  | .movDB => movRR .d .b
  | .movDC => movRR .d .c
  | .movDD => movRR .d .d
  | .movDE => movRR .d .e
  | .movDH => movRR .d .h
  | .movDL => movRR .d .l
  | .movDM => movRM .d
  | .movDA => movRR .d .a
  | .movEB => movRR .e .b
  | .movEC => movRR .e .c
  | .movED => movRR .e .d
  | .movEE => movRR .e .e
  | .movEH => movRR .e .h
  | .movEL => movRR .e .l
  | .movEM => movRM .e
  | .movEA => movRR .e .a
  | .movHB => movRR .h .b
  | .movHC => movRR .h .c
  | .movHD => movRR .h .d
  | .movHE => movRR .h .e
  | .movHH => movRR .h .h
  | .movHL => movRR .h .l
  | .movHM => movRM .h
  | .movHA => movRR .h .a
  | .movLB => movRR .l .b
  | .movLC => movRR .l .c
  | .movLD => movRR .l .d
  | .movLE => movRR .l .e
  | .movLH => movRR .l .h
  | .movLL => movRR .l .l
  | .movLM => movRM .l
  | .movLA => movRR .l .a
  | .movMB => movMR .b
  | .movMC => movMR .c
  | .movMD => movMR .d
  | .movME => movMR .e
  | .movMH => movMR .h
  | .movML => movMR .l
  | .hlt => hlt
  | .movMA => movMR .a
  | .movAB => movRR .a .b
  | .movAC => movRR .a .c
  | .movAD => movRR .a .d
  | .movAE => movRR .a .e
  | .movAH => movRR .a .h
  | .movAL => movRR .a .l
  | .movAM => movRM .a
  | .movAA => movRR .a .a
  | .addB => alu .add (.reg .b)
  | .addC => alu .add (.reg .c)
  | .addD => alu .add (.reg .d)
  | .addE => alu .add (.reg .e)
  | .addH => alu .add (.reg .h)
  | .addL => alu .add (.reg .l)
  | .addM => alu .add .m
  | .addA => alu .add (.reg .a)
  | .adcB => alu .adc (.reg .b)
  | .adcC => alu .adc (.reg .c)
  | .adcD => alu .adc (.reg .d)
  | .adcE => alu .adc (.reg .e)
  | .adcH => alu .adc (.reg .h)
  | .adcL => alu .adc (.reg .l)
  | .adcM => alu .adc .m
  | .adcA => alu .adc (.reg .a)
  | .subB => alu .sub (.reg .b)
  | .subC => alu .sub (.reg .c)
  | .subD => alu .sub (.reg .d)
  | .subE => alu .sub (.reg .e)
  | .subH => alu .sub (.reg .h)
  | .subL => alu .sub (.reg .l)
  | .subM => alu .sub .m
  | .subA => alu .sub (.reg .a)
  | .sbbB => alu .sbb (.reg .b)
  | .sbbC => alu .sbb (.reg .c)
  | .sbbD => alu .sbb (.reg .d)
  | .sbbE => alu .sbb (.reg .e)
  | .sbbH => alu .sbb (.reg .h)
  | .sbbL => alu .sbb (.reg .l)
  | .sbbM => alu .sbb .m
  | .sbbA => alu .sbb (.reg .a)
  | .anaB => alu .ana (.reg .b)
  | .anaC => alu .ana (.reg .c)
  | .anaD => alu .ana (.reg .d)
  | .anaE => alu .ana (.reg .e)
  | .anaH => alu .ana (.reg .h)
  | .anaL => alu .ana (.reg .l)
  | .anaM => alu .ana .m
  | .anaA => alu .ana (.reg .a)
  | .xraB => alu .xra (.reg .b)
  | .xraC => alu .xra (.reg .c)
  | .xraD => alu .xra (.reg .d)
  | .xraE => alu .xra (.reg .e)
  | .xraH => alu .xra (.reg .h)
  | .xraL => alu .xra (.reg .l)
  | .xraM => alu .xra .m
  | .xraA => alu .xra (.reg .a)
  | .oraB => alu .ora (.reg .b)
  | .oraC => alu .ora (.reg .c)
  | .oraD => alu .ora (.reg .d)
  | .oraE => alu .ora (.reg .e)
  | .oraH => alu .ora (.reg .h)
  | .oraL => alu .ora (.reg .l)
  | .oraM => alu .ora .m
  | .oraA => alu .ora (.reg .a)
  | .cmpB => alu .cmp (.reg .b)
  | .cmpC => alu .cmp (.reg .c)
  | .cmpD => alu .cmp (.reg .d)
  | .cmpE => alu .cmp (.reg .e)
  | .cmpH => alu .cmp (.reg .h)
  | .cmpL => alu .cmp (.reg .l)
  | .cmpM => alu .cmp .m
  | .cmpA => alu .cmp (.reg .a)
  | .rnz => rcc .nz
  | .popB => pop .bc
  | .jnz a => jcc .nz a
  | .jmp a => jmpForms a _ (by simp [Instr.jmpForms])
  | .cnz a => ccc .nz a
  | .pushB => push .bc
  | .adi d => aluImm .add d
  | .rst0 => rst 0
  | .rz => rcc .z
  | .ret => retForms _ (by decide)
  | .jz a => jcc .z a
  | .jmpCB a => jmpForms a _ (by simp [Instr.jmpForms])
  | .cz a => ccc .z a
  | .call a => callForms a _ (by simp [Instr.callForms])
  | .aci d => aluImm .adc d
  | .rst1 => rst 1
  | .rnc => rcc .nc
  | .popD => pop .de
  | .jnc a => jcc .nc a
  | .outPort p => outPort p
  | .cnc a => ccc .nc a
  | .pushD => push .de
  | .sui d => aluImm .sub d
  | .rst2 => rst 2
  | .rc => rcc .c
  | .retD9 => retForms _ (by decide)
  | .jc a => jcc .c a
  | .inPort p => inPort p
  | .cc a => ccc .c a
  | .callDD a => callForms a _ (by simp [Instr.callForms])
  | .sbi d => aluImm .sbb d
  | .rst3 => rst 3
  | .rpo => rcc .po
  | .popH => pop .hl
  | .jpo a => jcc .po a
  | .xthl => xthl
  | .cpo a => ccc .po a
  | .pushH => push .hl
  | .ani d => aluImm .ana d
  | .rst4 => rst 4
  | .rpe => rcc .pe
  | .pchl => pchl
  | .jpe a => jcc .pe a
  | .xchg => xchg
  | .cpe a => ccc .pe a
  | .callED a => callForms a _ (by simp [Instr.callForms])
  | .xri d => aluImm .xra d
  | .rst5 => rst 5
  | .rp => rcc .p
  | .popPsw => popPsw
  | .jp a => jcc .p a
  | .di => di
  | .cp a => ccc .p a
  | .pushPsw => pushPsw
  | .ori d => aluImm .ora d
  | .rst6 => rst 6
  | .rm => rcc .m
  | .sphl => sphl
  | .jm a => jcc .m a
  | .ei => ei
  | .cm a => ccc .m a
  | .callFD a => callForms a _ (by simp [Instr.callForms])
  | .cpi d => aluImm .cmp d
  | .rst7 => rst 7

/-- What a next state of `exec` is, family by family, in terms of the shared operations: every fact about what
instructions can do follows from one fact per operation. -/
theorem exec_cases {s : State} {Q : Instr → State → Prop}
    (movRR : ∀ (dst src : Reg), Q (Instr.movRR dst src) (s.movRegs dst src))
    (movRM : ∀ (dst : Reg), Q (Instr.movRM dst) (s.movFromMem dst))
    (movMR : ∀ (src : Reg), Q (Instr.movMR src) (s.movToMem src))
    (mviR : ∀ (r : Reg) (v : Byte), Q (Instr.mviR r v) (s.setReg r v))
    (mviM : ∀ (v : Byte), Q (.mviM v) (s.storeByte s.hl v))
    (lxi : ∀ (p : Pair) (w : Word), Q (Instr.lxi p w) (s.setPair p w))
    (lda : ∀ (k : Word), Q (.lda k) { s with a := s.byteAt k })
    (sta : ∀ (k : Word), Q (.sta k) (s.storeByte k s.a))
    (lhld : ∀ (k : Word), Q (.lhld k) (s.setRp .hl (s.wordAt k)))
    (shld : ∀ (k : Word), Q (.shld k) (s.storeWord k s.hl))
    (ldaxB : Q .ldaxB { s with a := s.byteAt (s.rp .bc) })
    (ldaxD : Q .ldaxD { s with a := s.byteAt (s.rp .de) })
    (staxB : Q .staxB (s.storeByte (s.rp .bc) s.a))
    (staxD : Q .staxD (s.storeByte (s.rp .de) s.a))
    (xchg : Q .xchg { s with d := s.h, e := s.l, h := s.d, l := s.e })
    (xthl : Q .xthl ((s.storeWord s.sp s.hl).setRp .hl s.stackTop))
    (sphl : Q .sphl { s with sp := s.hl })
    (alu : ∀ (op : AluOp) (o : Operand), Q (Instr.alu op o) (s.accumulate op (s.src8 o)))
    (aluImm : ∀ (op : AluOp) (v : Byte), Q (Instr.aluImm op v) (s.accumulate op v))
    (inrR : ∀ (r : Reg), Q (Instr.inrR r) (s.increment (.reg r)))
    (inrM : Q .inrM (s.increment .m))
    (dcrR : ∀ (r : Reg), Q (Instr.dcrR r) (s.decrement (.reg r)))
    (dcrM : Q .dcrM (s.decrement .m))
    (inx : ∀ (p : Pair), Q (Instr.inx p) (s.setPair p (s.pair p + 1)))
    (dcx : ∀ (p : Pair), Q (Instr.dcx p) (s.setPair p (s.pair p - 1)))
    (dad : ∀ (p : Pair), Q (Instr.dad p) (s.addToHl (s.pair p)))
    (daa : Q .daa s.decimalAdjust)
    (rlc : Q .rlc s.rotateLeft)
    (rrc : Q .rrc s.rotateRight)
    (ral : Q .ral s.rotateLeftCarry)
    (rar : Q .rar s.rotateRightCarry)
    (cma : Q .cma { s with a := ~~~s.a })
    (stc : Q .stc (s.setCarry true))
    (cmc : Q .cmc (s.setCarry !s.flags.cy))
    (jmpForms : ∀ (k : Word) (i : Instr) (_ : i ∈ Instr.jmpForms k), Q i (s.jump k))
    (jcc : ∀ (cond : Cond) (k : Word), Q (Instr.jcc cond k) (s.jumpIf cond k))
    (pchl : Q .pchl (s.jump s.hl))
    (callForms : ∀ (k : Word) (i : Instr) (_ : i ∈ Instr.callForms k), Q i (s.call k))
    (ccc : ∀ (cond : Cond) (k : Word), Q (Instr.ccc cond k) (s.callIf cond k))
    (retForms : ∀ (i : Instr) (_ : i ∈ Instr.retForms), Q i s.ret)
    (rcc : ∀ (cond : Cond), Q (Instr.rcc cond) (s.retIf cond))
    (rst : ∀ (n : BitVec 3), Q (Instr.rst n) (s.call (vectorAddress n)))
    (push : ∀ (p : RegPair), Q (Instr.push p) (s.push16 (s.rp p)))
    (pushPsw : Q .pushPsw (s.push16 s.pswWord))
    (pop : ∀ (p : RegPair), Q (Instr.pop p) ((s.setRp p s.stackTop).pop16))
    (popPsw : Q .popPsw ((s.setPsw s.stackTop).pop16))
    (inPort : ∀ (p : Byte), Q (.inPort p) { s with a := s.portRead p })
    (outPort : ∀ (p : Byte), Q (.outPort p) (s.portWrite p s.a))
    (nopForms : ∀ (i : Instr) (_ : i ∈ Instr.nopForms), Q i s)
    (hlt : Q .hlt { s with halted := true })
    (ei : Q .ei { s with ie := true })
    (di : Q .di { s with ie := false }) :
    ∀ i t, exec i s = .next t → Q i t := by
  intro i
  cases i using Instr.byFamily with
  | movRR dst src => intro t h; exact Host.Outcome.next.inj ((exec_movRR dst src s).symm.trans h) ▸ movRR dst src
  | movRM dst => intro t h; exact Host.Outcome.next.inj ((exec_movRM dst s).symm.trans h) ▸ movRM dst
  | movMR src => intro t h; exact Host.Outcome.next.inj ((exec_movMR src s).symm.trans h) ▸ movMR src
  | mviR r v => intro t h; exact Host.Outcome.next.inj ((exec_mviR r v s).symm.trans h) ▸ mviR r v
  | mviM v => intro t h; exact Host.Outcome.next.inj h ▸ mviM v
  | lxi p w => intro t h; exact Host.Outcome.next.inj ((exec_lxi p w s).symm.trans h) ▸ lxi p w
  | lda k => intro t h; exact Host.Outcome.next.inj h ▸ lda k
  | sta k => intro t h; exact Host.Outcome.next.inj h ▸ sta k
  | lhld k => intro t h; exact Host.Outcome.next.inj h ▸ lhld k
  | shld k => intro t h; exact Host.Outcome.next.inj h ▸ shld k
  | ldaxB => intro t h; exact Host.Outcome.next.inj h ▸ ldaxB
  | ldaxD => intro t h; exact Host.Outcome.next.inj h ▸ ldaxD
  | staxB => intro t h; exact Host.Outcome.next.inj h ▸ staxB
  | staxD => intro t h; exact Host.Outcome.next.inj h ▸ staxD
  | xchg => intro t h; exact Host.Outcome.next.inj h ▸ xchg
  | xthl => intro t h; exact Host.Outcome.next.inj h ▸ xthl
  | sphl => intro t h; exact Host.Outcome.next.inj h ▸ sphl
  | alu op o => intro t h; exact Host.Outcome.next.inj ((exec_alu op o s).symm.trans h) ▸ alu op o
  | aluImm op v => intro t h; exact Host.Outcome.next.inj ((exec_aluImm op v s).symm.trans h) ▸ aluImm op v
  | inrR r => intro t h; exact Host.Outcome.next.inj ((exec_inrR r s).symm.trans h) ▸ inrR r
  | inrM => intro t h; exact Host.Outcome.next.inj h ▸ inrM
  | dcrR r => intro t h; exact Host.Outcome.next.inj ((exec_dcrR r s).symm.trans h) ▸ dcrR r
  | dcrM => intro t h; exact Host.Outcome.next.inj h ▸ dcrM
  | inx p => intro t h; exact Host.Outcome.next.inj ((exec_inx p s).symm.trans h) ▸ inx p
  | dcx p => intro t h; exact Host.Outcome.next.inj ((exec_dcx p s).symm.trans h) ▸ dcx p
  | dad p => intro t h; exact Host.Outcome.next.inj ((exec_dad p s).symm.trans h) ▸ dad p
  | daa => intro t h; exact Host.Outcome.next.inj h ▸ daa
  | rlc => intro t h; exact Host.Outcome.next.inj h ▸ rlc
  | rrc => intro t h; exact Host.Outcome.next.inj h ▸ rrc
  | ral => intro t h; exact Host.Outcome.next.inj h ▸ ral
  | rar => intro t h; exact Host.Outcome.next.inj h ▸ rar
  | cma => intro t h; exact Host.Outcome.next.inj h ▸ cma
  | stc => intro t h; exact Host.Outcome.next.inj h ▸ stc
  | cmc => intro t h; exact Host.Outcome.next.inj h ▸ cmc
  | jmpForms k i m => intro t h; exact Host.Outcome.next.inj ((exec_jmpForms k i m s).symm.trans h) ▸ jmpForms k i m
  | jcc cond k => intro t h; exact Host.Outcome.next.inj ((exec_jcc cond k s).symm.trans h) ▸ jcc cond k
  | pchl => intro t h; exact Host.Outcome.next.inj h ▸ pchl
  | callForms k i m => intro t h; exact Host.Outcome.next.inj ((exec_callForms k i m s).symm.trans h) ▸ callForms k i m
  | ccc cond k => intro t h; exact Host.Outcome.next.inj ((exec_ccc cond k s).symm.trans h) ▸ ccc cond k
  | retForms i m => intro t h; exact Host.Outcome.next.inj ((exec_retForms i m s).symm.trans h) ▸ retForms i m
  | rcc cond => intro t h; exact Host.Outcome.next.inj ((exec_rcc cond s).symm.trans h) ▸ rcc cond
  | rst n => intro t h; exact Host.Outcome.next.inj ((exec_rst n s).symm.trans h) ▸ rst n
  | push p => intro t h; exact Host.Outcome.next.inj ((exec_push p s).symm.trans h) ▸ push p
  | pushPsw => intro t h; exact Host.Outcome.next.inj h ▸ pushPsw
  | pop p => intro t h; exact Host.Outcome.next.inj ((exec_pop p s).symm.trans h) ▸ pop p
  | popPsw => intro t h; exact Host.Outcome.next.inj h ▸ popPsw
  | inPort p => intro t h; exact Host.Outcome.next.inj h ▸ inPort p
  | outPort p => intro t h; exact Host.Outcome.next.inj h ▸ outPort p
  | nopForms i m => intro t h; exact Host.Outcome.next.inj ((exec_nopForms i m s).symm.trans h) ▸ nopForms i m
  | hlt => intro t h; exact Host.Outcome.next.inj h ▸ hlt
  | ei => intro t h; exact Host.Outcome.next.inj h ▸ ei
  | di => intro t h; exact Host.Outcome.next.inj h ▸ di

end Sys2Proof.Machine
end

