-- ==== Sys2Proof/Laws/Memory.lean ====
section
/-! SUPPORT. The laws of memory: what a read gives after a write, and that every operation keeps the canonical form. -/

namespace Sys2Proof.Machine

theorem Memory.read_insert (m : Memory) (k x : Nat) (v : Byte) :
    Memory.read (Memory.insert m k v) x = if x = k then v else Memory.read m x := by
  induction m with
  | nil => simp [Memory.insert, Memory.read, eq_comm]
  | cons c rest ih =>
    by_cases h1 : k < c.1
    · simp [Memory.insert, h1, Memory.read, eq_comm]
    · by_cases h2 : c.1 = k
      · by_cases hx : x = k
        · simp [Memory.insert, Memory.read, h2, hx]
        · simp [Memory.insert, Memory.read, h2, hx, Ne.symm hx]
      · by_cases hx : c.1 = x
        · subst hx
          simp [Memory.insert, Memory.read, h1, h2]
        · simp [Memory.insert, Memory.read, h1, h2, hx, ih]

theorem Memory.read_erase (m : Memory) (k x : Nat) :
    Memory.read (Memory.erase m k) x = if x = k then Memory.unlisted else Memory.read m x := by
  unfold Memory.erase
  induction m with
  | nil => simp [Memory.read]
  | cons c rest ih =>
    by_cases hk : c.1 = k
    · simp only [hk, bne_self_eq_false, Bool.false_eq_true, not_false_eq_true, List.filter_cons_of_neg, ih]
      by_cases hx : x = k
      · simp [hx]
      · simp [Memory.read, hk, hx, Ne.symm hx]
    · simp only [bne_iff_ne, ne_eq, hk, not_false_eq_true, List.filter_cons_of_pos, Memory.read, ih]
      by_cases hx : x = k
      · simp [hx, hk]
      · simp [hx]

/-- A write replaces one byte and no other, whatever the list looks like (20_memory.md R51). -/
@[simp] theorem Memory.read_write (m : Memory) (k x : Nat) (v : Byte) :
    Memory.read (Memory.write m k v) x = if x = k then v else Memory.read m x := by
  unfold Memory.write
  split
  · simp_all [Memory.read_erase]
  · exact Memory.read_insert m k x v

theorem Memory.mem_insert (m : Memory) (k : Nat) (v : Byte) (c : Host.Cell) (h : c ∈ Memory.insert m k v) :
    c = (k, v) ∨ c ∈ m := by
  induction m with
  | nil => simp_all [Memory.insert]
  | cons d rest ih =>
    simp only [Memory.insert] at h
    split at h
    · simpa [or_assoc] using h
    · split at h
      · rcases List.mem_cons.1 h with h | h
        · exact .inl h
        · exact .inr (List.mem_cons_of_mem _ h)
      · rcases List.mem_cons.1 h with h | h
        · exact .inr (h ▸ List.mem_cons_self)
        · exact (ih h).imp id (List.mem_cons_of_mem _)

theorem Memory.insert_rising (m : Memory) (k : Nat) (v : Byte) (h : m.Pairwise (fun x y => x.1 < y.1)) :
    (Memory.insert m k v).Pairwise (fun x y => x.1 < y.1) := by
  induction m with
  | nil => simp [Memory.insert]
  | cons c rest ih =>
    obtain ⟨hc, hr⟩ := List.pairwise_cons.1 h
    simp only [Memory.insert]
    split
    · rename_i hk
      refine List.pairwise_cons.2 ⟨fun d hd => ?_, h⟩
      rcases List.mem_cons.1 hd with rfl | hd
      · exact hk
      · exact Nat.lt_trans hk (hc d hd)
    · split
      · rename_i hk
        exact List.pairwise_cons.2 ⟨fun d hd => hk ▸ hc d hd, hr⟩
      · refine List.pairwise_cons.2 ⟨fun d hd => ?_, ih hr⟩
        rcases Memory.mem_insert _ _ _ _ hd with rfl | hd
        · simp only
          omega
        · exact hc d hd

/-- Every write inside the address space keeps the canonical form. -/
theorem Memory.write_wf (m : Memory) (k : Nat) (v : Byte) (hk : k < 65536) (h : Memory.wf m) :
    Memory.wf (Memory.write m k v) := by
  unfold Memory.write
  split
  · exact ⟨h.1.filter _, fun c hc => h.2 c (List.mem_filter.1 hc).1⟩
  · rename_i hv
    refine ⟨Memory.insert_rising m k v h.1, fun c hc => ?_⟩
    rcases Memory.mem_insert _ _ _ _ hc with rfl | hc
    · exact ⟨hk, hv⟩
    · exact h.2 c hc

theorem Memory.empty_wf : Memory.wf [] := ⟨List.Pairwise.nil, by simp⟩

theorem Memory.mem_ofBytes (f : Word → Byte) (n : Nat) (c : Host.Cell) (h : c ∈ Memory.ofBytes f n) :
    c.1 < n ∧ c.2 ≠ Memory.unlisted := by
  induction n with
  | zero => simp [Memory.ofBytes] at h
  | succ n ih =>
    simp only [Memory.ofBytes] at h
    split at h
    · exact ⟨Nat.lt_succ_of_lt (ih h).1, (ih h).2⟩
    · rename_i hv
      rcases List.mem_append.1 h with h | h
      · exact ⟨Nat.lt_succ_of_lt (ih h).1, (ih h).2⟩
      · simp only [List.mem_singleton] at h
        subst h
        exact ⟨Nat.lt_succ_self n, hv⟩

/-- The memory made from a table of bytes is in canonical form. -/
theorem Memory.ofBytes_wf (f : Word → Byte) (n : Nat) (hn : n ≤ 65536) : Memory.wf (Memory.ofBytes f n) := by
  refine ⟨?_, fun c hc => ⟨Nat.lt_of_lt_of_le (Memory.mem_ofBytes f n c hc).1 hn, (Memory.mem_ofBytes f n c hc).2⟩⟩
  clear hn
  induction n with
  | zero => exact List.Pairwise.nil
  | succ n ih =>
    simp only [Memory.ofBytes]
    split
    · exact ih
    · refine List.pairwise_append.2 ⟨ih, List.pairwise_singleton _ _, fun c hc d hd => ?_⟩
      simp only [List.mem_singleton] at hd
      subst hd
      exact (Memory.mem_ofBytes f n c hc).1

theorem Memory.read_append_last (m : Memory) (n x : Nat) (v : Byte) (h : ∀ c ∈ m, c.1 < n) :
    Memory.read (m ++ [(n, v)]) x = if x = n then v else Memory.read m x := by
  induction m with
  | nil => simp [Memory.read, eq_comm]
  | cons c rest ih =>
    have hc := h c List.mem_cons_self
    simp only [List.cons_append, Memory.read, ih fun d hd => h d (List.mem_cons_of_mem _ hd)]
    split
    · rw [if_neg (by omega)]
    · rfl

/-- The memory made from a table of bytes reads as the table. -/
theorem Memory.read_ofBytes (f : Word → Byte) (n x : Nat) :
    Memory.read (Memory.ofBytes f n) x = if x < n then f (BitVec.ofNat 16 x) else Memory.unlisted := by
  induction n with
  | zero => simp [Memory.ofBytes, Memory.read]
  | succ n ih =>
    simp only [Memory.ofBytes]
    split
    · rename_i hv
      rw [ih]
      by_cases hx : x = n
      · simp [hx, hv]
      · simp only [show (x < n + 1) = (x < n) from propext (by omega)]
    · rw [Memory.read_append_last _ _ _ _ fun c hc => (Memory.mem_ofBytes f n c hc).1, ih]
      by_cases hx : x = n
      · simp [hx]
      · simp only [hx, if_false, show (x < n + 1) = (x < n) from propext (by omega)]

end Sys2Proof.Machine
end

