-- ==== Sys2Proof/Laws/State.lean ====
section
/-! SUPPORT. What each operation of Ops.lean leaves in each part of the state: one lemma per operation and part, so that
no later proof unfolds an update. -/

namespace Sys2Proof.Machine

/-! ### `setReg` -/

@[simp] theorem State.setReg_pc (s : State) (r : Reg) (v : Byte) : (s.setReg r v).pc = s.pc := by cases r <;> rfl

@[simp] theorem State.setReg_sp (s : State) (r : Reg) (v : Byte) : (s.setReg r v).sp = s.sp := by cases r <;> rfl

@[simp] theorem State.setReg_flags (s : State) (r : Reg) (v : Byte) : (s.setReg r v).flags = s.flags := by cases r <;> rfl

@[simp] theorem State.setReg_halted (s : State) (r : Reg) (v : Byte) : (s.setReg r v).halted = s.halted := by cases r <;> rfl

@[simp] theorem State.setReg_ie (s : State) (r : Reg) (v : Byte) : (s.setReg r v).ie = s.ie := by cases r <;> rfl

@[simp] theorem State.setReg_mem (s : State) (r : Reg) (v : Byte) : (s.setReg r v).mem = s.mem := by cases r <;> rfl

@[simp] theorem State.setReg_port1 (s : State) (r : Reg) (v : Byte) : (s.setReg r v).port1 = s.port1 := by cases r <;> rfl

@[simp] theorem State.setReg_port2 (s : State) (r : Reg) (v : Byte) : (s.setReg r v).port2 = s.port2 := by cases r <;> rfl

@[simp] theorem State.setReg_shiftData (s : State) (r : Reg) (v : Byte) : (s.setReg r v).shiftData = s.shiftData := by cases r <;> rfl

@[simp] theorem State.setReg_shiftOffset (s : State) (r : Reg) (v : Byte) : (s.setReg r v).shiftOffset = s.shiftOffset := by cases r <;> rfl

@[simp] theorem State.setReg_intSched (s : State) (r : Reg) (v : Byte) : (s.setReg r v).intSched = s.intSched := by cases r <;> rfl

@[simp] theorem State.setReg_cycleAcc (s : State) (r : Reg) (v : Byte) : (s.setReg r v).cycleAcc = s.cycleAcc := by cases r <;> rfl

@[simp] theorem State.setReg_half (s : State) (r : Reg) (v : Byte) : (s.setReg r v).half = s.half := by cases r <;> rfl

@[simp] theorem State.setReg_script (s : State) (r : Reg) (v : Byte) : (s.setReg r v).script = s.script := by cases r <;> rfl

@[simp] theorem State.setReg_byteAt (s : State) (r : Reg) (v : Byte) (k : Word) : (s.setReg r v).byteAt k = s.byteAt k := by simp [State.byteAt]

/-! ### `setRp` -/

@[simp] theorem State.setRp_pc (s : State) (p : RegPair) (w : Word) : (s.setRp p w).pc = s.pc := by cases p <;> rfl

@[simp] theorem State.setRp_sp (s : State) (p : RegPair) (w : Word) : (s.setRp p w).sp = s.sp := by cases p <;> rfl

@[simp] theorem State.setRp_flags (s : State) (p : RegPair) (w : Word) : (s.setRp p w).flags = s.flags := by cases p <;> rfl

@[simp] theorem State.setRp_halted (s : State) (p : RegPair) (w : Word) : (s.setRp p w).halted = s.halted := by cases p <;> rfl

@[simp] theorem State.setRp_ie (s : State) (p : RegPair) (w : Word) : (s.setRp p w).ie = s.ie := by cases p <;> rfl

@[simp] theorem State.setRp_mem (s : State) (p : RegPair) (w : Word) : (s.setRp p w).mem = s.mem := by cases p <;> rfl

@[simp] theorem State.setRp_port1 (s : State) (p : RegPair) (w : Word) : (s.setRp p w).port1 = s.port1 := by cases p <;> rfl

@[simp] theorem State.setRp_port2 (s : State) (p : RegPair) (w : Word) : (s.setRp p w).port2 = s.port2 := by cases p <;> rfl

@[simp] theorem State.setRp_shiftData (s : State) (p : RegPair) (w : Word) : (s.setRp p w).shiftData = s.shiftData := by cases p <;> rfl

@[simp] theorem State.setRp_shiftOffset (s : State) (p : RegPair) (w : Word) : (s.setRp p w).shiftOffset = s.shiftOffset := by cases p <;> rfl

@[simp] theorem State.setRp_intSched (s : State) (p : RegPair) (w : Word) : (s.setRp p w).intSched = s.intSched := by cases p <;> rfl

@[simp] theorem State.setRp_cycleAcc (s : State) (p : RegPair) (w : Word) : (s.setRp p w).cycleAcc = s.cycleAcc := by cases p <;> rfl

@[simp] theorem State.setRp_half (s : State) (p : RegPair) (w : Word) : (s.setRp p w).half = s.half := by cases p <;> rfl

@[simp] theorem State.setRp_script (s : State) (p : RegPair) (w : Word) : (s.setRp p w).script = s.script := by cases p <;> rfl

@[simp] theorem State.setRp_byteAt (s : State) (p : RegPair) (w : Word) (k : Word) : (s.setRp p w).byteAt k = s.byteAt k := by simp [State.byteAt]

/-! ### `storeByte` -/

@[simp] theorem State.storeByte_a (s : State) (k : Word) (v : Byte) : (s.storeByte k v).a = s.a := rfl

@[simp] theorem State.storeByte_b (s : State) (k : Word) (v : Byte) : (s.storeByte k v).b = s.b := rfl

@[simp] theorem State.storeByte_c (s : State) (k : Word) (v : Byte) : (s.storeByte k v).c = s.c := rfl

@[simp] theorem State.storeByte_d (s : State) (k : Word) (v : Byte) : (s.storeByte k v).d = s.d := rfl

@[simp] theorem State.storeByte_e (s : State) (k : Word) (v : Byte) : (s.storeByte k v).e = s.e := rfl

@[simp] theorem State.storeByte_h (s : State) (k : Word) (v : Byte) : (s.storeByte k v).h = s.h := rfl

@[simp] theorem State.storeByte_l (s : State) (k : Word) (v : Byte) : (s.storeByte k v).l = s.l := rfl

@[simp] theorem State.storeByte_pc (s : State) (k : Word) (v : Byte) : (s.storeByte k v).pc = s.pc := rfl

@[simp] theorem State.storeByte_sp (s : State) (k : Word) (v : Byte) : (s.storeByte k v).sp = s.sp := rfl

@[simp] theorem State.storeByte_flags (s : State) (k : Word) (v : Byte) : (s.storeByte k v).flags = s.flags := rfl

@[simp] theorem State.storeByte_halted (s : State) (k : Word) (v : Byte) : (s.storeByte k v).halted = s.halted := rfl

@[simp] theorem State.storeByte_ie (s : State) (k : Word) (v : Byte) : (s.storeByte k v).ie = s.ie := rfl

@[simp] theorem State.storeByte_port1 (s : State) (k : Word) (v : Byte) : (s.storeByte k v).port1 = s.port1 := rfl

@[simp] theorem State.storeByte_port2 (s : State) (k : Word) (v : Byte) : (s.storeByte k v).port2 = s.port2 := rfl

@[simp] theorem State.storeByte_shiftData (s : State) (k : Word) (v : Byte) : (s.storeByte k v).shiftData = s.shiftData := rfl

@[simp] theorem State.storeByte_shiftOffset (s : State) (k : Word) (v : Byte) : (s.storeByte k v).shiftOffset = s.shiftOffset := rfl

@[simp] theorem State.storeByte_intSched (s : State) (k : Word) (v : Byte) : (s.storeByte k v).intSched = s.intSched := rfl

@[simp] theorem State.storeByte_cycleAcc (s : State) (k : Word) (v : Byte) : (s.storeByte k v).cycleAcc = s.cycleAcc := rfl

@[simp] theorem State.storeByte_half (s : State) (k : Word) (v : Byte) : (s.storeByte k v).half = s.half := rfl

@[simp] theorem State.storeByte_script (s : State) (k : Word) (v : Byte) : (s.storeByte k v).script = s.script := rfl

@[simp] theorem State.storeByte_reg (s : State) (k : Word) (v : Byte) (x : Reg) : (s.storeByte k v).reg x = s.reg x := by cases x <;> rfl

/-! ### `storeWord` -/

@[simp] theorem State.storeWord_a (s : State) (k w : Word) : (s.storeWord k w).a = s.a := rfl

@[simp] theorem State.storeWord_b (s : State) (k w : Word) : (s.storeWord k w).b = s.b := rfl

@[simp] theorem State.storeWord_c (s : State) (k w : Word) : (s.storeWord k w).c = s.c := rfl

@[simp] theorem State.storeWord_d (s : State) (k w : Word) : (s.storeWord k w).d = s.d := rfl

@[simp] theorem State.storeWord_e (s : State) (k w : Word) : (s.storeWord k w).e = s.e := rfl

@[simp] theorem State.storeWord_h (s : State) (k w : Word) : (s.storeWord k w).h = s.h := rfl

@[simp] theorem State.storeWord_l (s : State) (k w : Word) : (s.storeWord k w).l = s.l := rfl

@[simp] theorem State.storeWord_pc (s : State) (k w : Word) : (s.storeWord k w).pc = s.pc := rfl

@[simp] theorem State.storeWord_sp (s : State) (k w : Word) : (s.storeWord k w).sp = s.sp := rfl

@[simp] theorem State.storeWord_flags (s : State) (k w : Word) : (s.storeWord k w).flags = s.flags := rfl

@[simp] theorem State.storeWord_halted (s : State) (k w : Word) : (s.storeWord k w).halted = s.halted := rfl

@[simp] theorem State.storeWord_ie (s : State) (k w : Word) : (s.storeWord k w).ie = s.ie := rfl

@[simp] theorem State.storeWord_port1 (s : State) (k w : Word) : (s.storeWord k w).port1 = s.port1 := rfl

@[simp] theorem State.storeWord_port2 (s : State) (k w : Word) : (s.storeWord k w).port2 = s.port2 := rfl

@[simp] theorem State.storeWord_shiftData (s : State) (k w : Word) : (s.storeWord k w).shiftData = s.shiftData := rfl

@[simp] theorem State.storeWord_shiftOffset (s : State) (k w : Word) : (s.storeWord k w).shiftOffset = s.shiftOffset := rfl

@[simp] theorem State.storeWord_intSched (s : State) (k w : Word) : (s.storeWord k w).intSched = s.intSched := rfl

@[simp] theorem State.storeWord_cycleAcc (s : State) (k w : Word) : (s.storeWord k w).cycleAcc = s.cycleAcc := rfl

@[simp] theorem State.storeWord_half (s : State) (k w : Word) : (s.storeWord k w).half = s.half := rfl

@[simp] theorem State.storeWord_script (s : State) (k w : Word) : (s.storeWord k w).script = s.script := rfl

@[simp] theorem State.storeWord_reg (s : State) (k w : Word) (x : Reg) : (s.storeWord k w).reg x = s.reg x := by cases x <;> rfl

/-! ### `push16` -/

@[simp] theorem State.push16_a (s : State) (w : Word) : (s.push16 w).a = s.a := rfl

@[simp] theorem State.push16_b (s : State) (w : Word) : (s.push16 w).b = s.b := rfl

@[simp] theorem State.push16_c (s : State) (w : Word) : (s.push16 w).c = s.c := rfl

@[simp] theorem State.push16_d (s : State) (w : Word) : (s.push16 w).d = s.d := rfl

@[simp] theorem State.push16_e (s : State) (w : Word) : (s.push16 w).e = s.e := rfl

@[simp] theorem State.push16_h (s : State) (w : Word) : (s.push16 w).h = s.h := rfl

@[simp] theorem State.push16_l (s : State) (w : Word) : (s.push16 w).l = s.l := rfl

@[simp] theorem State.push16_pc (s : State) (w : Word) : (s.push16 w).pc = s.pc := rfl

@[simp] theorem State.push16_flags (s : State) (w : Word) : (s.push16 w).flags = s.flags := rfl

@[simp] theorem State.push16_halted (s : State) (w : Word) : (s.push16 w).halted = s.halted := rfl

@[simp] theorem State.push16_ie (s : State) (w : Word) : (s.push16 w).ie = s.ie := rfl

@[simp] theorem State.push16_port1 (s : State) (w : Word) : (s.push16 w).port1 = s.port1 := rfl

@[simp] theorem State.push16_port2 (s : State) (w : Word) : (s.push16 w).port2 = s.port2 := rfl

@[simp] theorem State.push16_shiftData (s : State) (w : Word) : (s.push16 w).shiftData = s.shiftData := rfl

@[simp] theorem State.push16_shiftOffset (s : State) (w : Word) : (s.push16 w).shiftOffset = s.shiftOffset := rfl

@[simp] theorem State.push16_intSched (s : State) (w : Word) : (s.push16 w).intSched = s.intSched := rfl

@[simp] theorem State.push16_cycleAcc (s : State) (w : Word) : (s.push16 w).cycleAcc = s.cycleAcc := rfl

@[simp] theorem State.push16_half (s : State) (w : Word) : (s.push16 w).half = s.half := rfl

@[simp] theorem State.push16_script (s : State) (w : Word) : (s.push16 w).script = s.script := rfl

@[simp] theorem State.push16_reg (s : State) (w : Word) (x : Reg) : (s.push16 w).reg x = s.reg x := by cases x <;> rfl

/-! ### `pop16` -/

@[simp] theorem State.pop16_a (s : State) : (s.pop16).a = s.a := rfl

@[simp] theorem State.pop16_b (s : State) : (s.pop16).b = s.b := rfl

@[simp] theorem State.pop16_c (s : State) : (s.pop16).c = s.c := rfl

@[simp] theorem State.pop16_d (s : State) : (s.pop16).d = s.d := rfl

@[simp] theorem State.pop16_e (s : State) : (s.pop16).e = s.e := rfl

@[simp] theorem State.pop16_h (s : State) : (s.pop16).h = s.h := rfl

@[simp] theorem State.pop16_l (s : State) : (s.pop16).l = s.l := rfl

@[simp] theorem State.pop16_pc (s : State) : (s.pop16).pc = s.pc := rfl

@[simp] theorem State.pop16_flags (s : State) : (s.pop16).flags = s.flags := rfl

@[simp] theorem State.pop16_halted (s : State) : (s.pop16).halted = s.halted := rfl

@[simp] theorem State.pop16_ie (s : State) : (s.pop16).ie = s.ie := rfl

@[simp] theorem State.pop16_mem (s : State) : (s.pop16).mem = s.mem := rfl

@[simp] theorem State.pop16_port1 (s : State) : (s.pop16).port1 = s.port1 := rfl

@[simp] theorem State.pop16_port2 (s : State) : (s.pop16).port2 = s.port2 := rfl

@[simp] theorem State.pop16_shiftData (s : State) : (s.pop16).shiftData = s.shiftData := rfl

@[simp] theorem State.pop16_shiftOffset (s : State) : (s.pop16).shiftOffset = s.shiftOffset := rfl

@[simp] theorem State.pop16_intSched (s : State) : (s.pop16).intSched = s.intSched := rfl

@[simp] theorem State.pop16_cycleAcc (s : State) : (s.pop16).cycleAcc = s.cycleAcc := rfl

@[simp] theorem State.pop16_half (s : State) : (s.pop16).half = s.half := rfl

@[simp] theorem State.pop16_script (s : State) : (s.pop16).script = s.script := rfl

@[simp] theorem State.pop16_reg (s : State) (x : Reg) : (s.pop16).reg x = s.reg x := by cases x <;> rfl

@[simp] theorem State.pop16_byteAt (s : State) (k : Word) : (s.pop16).byteAt k = s.byteAt k := by simp [State.byteAt]

/-! ### `pastInstr` -/

@[simp] theorem State.pastInstr_a (s : State) : (s.pastInstr).a = s.a := rfl

@[simp] theorem State.pastInstr_b (s : State) : (s.pastInstr).b = s.b := rfl

@[simp] theorem State.pastInstr_c (s : State) : (s.pastInstr).c = s.c := rfl

@[simp] theorem State.pastInstr_d (s : State) : (s.pastInstr).d = s.d := rfl

@[simp] theorem State.pastInstr_e (s : State) : (s.pastInstr).e = s.e := rfl

@[simp] theorem State.pastInstr_h (s : State) : (s.pastInstr).h = s.h := rfl

@[simp] theorem State.pastInstr_l (s : State) : (s.pastInstr).l = s.l := rfl

@[simp] theorem State.pastInstr_sp (s : State) : (s.pastInstr).sp = s.sp := rfl

@[simp] theorem State.pastInstr_flags (s : State) : (s.pastInstr).flags = s.flags := rfl

@[simp] theorem State.pastInstr_halted (s : State) : (s.pastInstr).halted = s.halted := rfl

@[simp] theorem State.pastInstr_ie (s : State) : (s.pastInstr).ie = s.ie := rfl

@[simp] theorem State.pastInstr_mem (s : State) : (s.pastInstr).mem = s.mem := rfl

@[simp] theorem State.pastInstr_port1 (s : State) : (s.pastInstr).port1 = s.port1 := rfl

@[simp] theorem State.pastInstr_port2 (s : State) : (s.pastInstr).port2 = s.port2 := rfl

@[simp] theorem State.pastInstr_shiftData (s : State) : (s.pastInstr).shiftData = s.shiftData := rfl

@[simp] theorem State.pastInstr_shiftOffset (s : State) : (s.pastInstr).shiftOffset = s.shiftOffset := rfl

@[simp] theorem State.pastInstr_intSched (s : State) : (s.pastInstr).intSched = s.intSched := rfl

@[simp] theorem State.pastInstr_cycleAcc (s : State) : (s.pastInstr).cycleAcc = s.cycleAcc := rfl

@[simp] theorem State.pastInstr_half (s : State) : (s.pastInstr).half = s.half := rfl

@[simp] theorem State.pastInstr_script (s : State) : (s.pastInstr).script = s.script := rfl

@[simp] theorem State.pastInstr_reg (s : State) (x : Reg) : (s.pastInstr).reg x = s.reg x := by cases x <;> rfl

@[simp] theorem State.pastInstr_byteAt (s : State) (k : Word) : (s.pastInstr).byteAt k = s.byteAt k := by simp [State.byteAt]

/-! ### `resetCpu` -/

@[simp] theorem State.resetCpu_mem (s : State) : (s.resetCpu).mem = s.mem := rfl

@[simp] theorem State.resetCpu_port1 (s : State) : (s.resetCpu).port1 = s.port1 := rfl

@[simp] theorem State.resetCpu_port2 (s : State) : (s.resetCpu).port2 = s.port2 := rfl

@[simp] theorem State.resetCpu_shiftData (s : State) : (s.resetCpu).shiftData = s.shiftData := rfl

@[simp] theorem State.resetCpu_shiftOffset (s : State) : (s.resetCpu).shiftOffset = s.shiftOffset := rfl

@[simp] theorem State.resetCpu_intSched (s : State) : (s.resetCpu).intSched = s.intSched := rfl

@[simp] theorem State.resetCpu_cycleAcc (s : State) : (s.resetCpu).cycleAcc = s.cycleAcc := rfl

@[simp] theorem State.resetCpu_half (s : State) : (s.resetCpu).half = s.half := rfl

@[simp] theorem State.resetCpu_script (s : State) : (s.resetCpu).script = s.script := rfl

@[simp] theorem State.resetCpu_byteAt (s : State) (k : Word) : (s.resetCpu).byteAt k = s.byteAt k := by simp [State.byteAt]

/-! ### What an operation writes -/

/-- A register write changes that register and no other. -/
@[simp] theorem State.setReg_reg (s : State) (r x : Reg) (v : Byte) :
    (s.setReg r v).reg x = if x = r then v else s.reg x := by cases r <;> cases x <;> rfl

/-- A pair write puts the high byte in the high register, the low byte in the low one. -/
@[simp] theorem State.setRp_reg (s : State) (p : RegPair) (w : Word) (x : Reg) :
    (s.setRp p w).reg x = if x = p.low then loByte w else if x = p.high then hiByte w else s.reg x := by
  cases p <;> cases x <;> rfl

/-- A byte store changes that byte and no other (20_memory.md R51). -/
@[simp] theorem State.storeByte_byteAt (s : State) (k x : Word) (v : Byte) :
    (s.storeByte k v).byteAt x = if x = k then v else s.byteAt x := by
  simp [State.byteAt, State.storeByte, BitVec.toNat_inj]

/-- A word store changes two bytes, low byte first (R53). -/
@[simp] theorem State.storeWord_byteAt (s : State) (k w x : Word) :
    (s.storeWord k w).byteAt x = if x = k + 1 then hiByte w else if x = k then loByte w else s.byteAt x := by
  simp [State.storeWord]

/-- A push writes the two bytes below SP and moves SP down by two (00_scope.md R10). -/
@[simp] theorem State.push16_byteAt (s : State) (w x : Word) :
    (s.push16 w).byteAt x = if x = s.sp - 2 then loByte w else if x = s.sp - 1 then hiByte w else s.byteAt x := by
  simp only [State.push16, State.byteAt]
  rw [← State.byteAt, ← State.byteAt]
  simp

@[simp] theorem State.push16_sp (s : State) (w : Word) : (s.push16 w).sp = s.sp - 2 := rfl

@[simp] theorem State.pop16_sp (s : State) : s.pop16.sp = s.sp + 2 := rfl

/-- Equal memories read alike. -/
theorem State.byteAt_of_mem_eq {s t : State} (h : t.mem = s.mem) (x : Word) : t.byteAt x = s.byteAt x := by
  simp [State.byteAt, h]

end Sys2Proof.Machine
end

