-- ==== Sys2Proof/Laws/Frames.lean ====
section
/-! SUPPORT. For each shared operation, all it can change, said once as a `Frame`; and how frames combine. -/

namespace Sys2Proof.Machine

theorem Frame.refl (c : Changes) (s : State) : Frame c s s := by constructor <;> simp

theorem Frame.trans {c : Changes} {s t u : State} (h : Frame c s t) (k : Frame c t u) : Frame c s u where
  regs r hr := (k.regs r hr).trans (h.regs r hr)
  bytes x hx := (k.bytes x hx).trans (h.bytes x hx)
  flags e := (k.flags e).trans (h.flags e)
  pc e := (k.pc e).trans (h.pc e)
  sp e := (k.sp e).trans (h.sp e)
  halted e := (k.halted e).trans (h.halted e)
  ie e := (k.ie e).trans (h.ie e)
  shiftData e := (k.shiftData e).trans (h.shiftData e)
  shiftOffset e := (k.shiftOffset e).trans (h.shiftOffset e)
  port1 := k.port1.trans h.port1
  port2 := k.port2.trans h.port2
  intSched := k.intSched.trans h.intSched
  cycleAcc := k.cycleAcc.trans h.cycleAcc
  half := k.half.trans h.half
  script := k.script.trans h.script

theorem frame_setReg (s : State) (r : Reg) (v : Byte) : Frame { regs := [r] } s (s.setReg r v) := by
  constructor <;> simp +contextual

theorem frame_setRp (s : State) (p : RegPair) (w : Word) : Frame { regs := [p.high, p.low] } s (s.setRp p w) := by
  constructor <;> simp +contextual

theorem frame_storeByte (s : State) (k : Word) (v : Byte) : Frame { bytes := [k] } s (s.storeByte k v) := by
  constructor <;> simp +contextual

theorem frame_storeWord (s : State) (k w : Word) : Frame { bytes := [k, k + 1] } s (s.storeWord k w) := by
  constructor <;> simp +contextual

theorem frame_push16 (s : State) (w : Word) :
    Frame { sp := true, bytes := pushedBytes s.sp } s (s.push16 w) := by
  constructor <;> simp +contextual [pushedBytes]

/-- A push writes the high byte below SP, the low byte below that, and moves SP down by two; the two cells differ. -/
theorem push16_writes (s : State) (w : Word) :
    (s.push16 w).byteAt (s.sp - 1) = hiByte w ∧ (s.push16 w).byteAt (s.sp - 2) = loByte w ∧
      (s.push16 w).sp = s.sp - 2 := by
  simp

/-- A word just stored reads back, at every address. -/
theorem wordAt_storeWord (s : State) (k w : Word) : (s.storeWord k w).wordAt k = w := by
  simp [State.wordAt]

/-- A word just pushed is the top of the stack. -/
@[simp] theorem stackTop_push16 (s : State) (w : Word) : (s.push16 w).stackTop = w := by
  have h1 : s.sp - 2 + 1 = s.sp - 1 := by bv_omega
  have h2 : s.sp - 1 ≠ s.sp - 2 := by bv_omega
  simp only [State.stackTop, State.wordAt, State.push16_sp, State.push16_byteAt, h1, h2, if_true, if_false,
    joinBytes_hi_lo]

/-- A pop after a push restores SP. -/
theorem sp_pop_push (w : Word) : w - 2 + 2 = w := by bv_omega

/-- An interrupt request is dropped, or it does what 60_exceptions.md R243 lists and nothing else. -/
theorem requestInterrupt_cases (s : State) (v : BitVec 3) :
    (s.ie = false ∧ s.requestInterrupt v = s) ∨
    (s.ie = true ∧ s.requestInterrupt v =
      { { s with ie := false, halted := false }.push16 s.pc with pc := vectorAddress v }) := by
  cases h : s.ie <;> simp [State.requestInterrupt, h]

theorem toNat_vectorAddress (v : BitVec 3) : (vectorAddress v).toNat = 8 * v.toNat := by
  have := v.isLt
  simp only [vectorAddress, BitVec.toNat_ofNat]
  omega

/-! ### The operations the meanings are written over -/

theorem Frame.mono {c d : Changes} {s t : State} (h : Frame c s t) (hr : ∀ r ∈ c.regs, r ∈ d.regs)
    (hb : ∀ k ∈ c.bytes, k ∈ d.bytes) (hf : c.flags = true → d.flags = true) (hp : c.pc = true → d.pc = true)
    (hs : c.sp = true → d.sp = true) (hh : c.halted = true → d.halted = true) (hi : c.ie = true → d.ie = true)
    (hd : c.shiftData = true → d.shiftData = true) (ho : c.shiftOffset = true → d.shiftOffset = true) :
    Frame d s t where
  regs r e := h.regs r fun e' => e (hr r e')
  bytes k e := h.bytes k fun e' => e (hb k e')
  flags e := h.flags (by cases x : c.flags <;> simp_all)
  pc e := h.pc (by cases x : c.pc <;> simp_all)
  sp e := h.sp (by cases x : c.sp <;> simp_all)
  halted e := h.halted (by cases x : c.halted <;> simp_all)
  ie e := h.ie (by cases x : c.ie <;> simp_all)
  shiftData e := h.shiftData (by cases x : c.shiftData <;> simp_all)
  shiftOffset e := h.shiftOffset (by cases x : c.shiftOffset <;> simp_all)
  port1 := h.port1
  port2 := h.port2
  intSched := h.intSched
  cycleAcc := h.cycleAcc
  half := h.half
  script := h.script

/-- A new flag record beside a change. -/
theorem Frame.withFlags {c : Changes} {s t : State} (h : Frame c s t) (f : Flags) :
    Frame { c with flags := true } s { t with flags := f } where
  regs r e := by rw [← h.regs r e]; cases r <;> rfl
  bytes := h.bytes
  flags e := nomatch e
  pc := h.pc
  sp := h.sp
  halted := h.halted
  ie := h.ie
  shiftData := h.shiftData
  shiftOffset := h.shiftOffset
  port1 := h.port1
  port2 := h.port2
  intSched := h.intSched
  cycleAcc := h.cycleAcc
  half := h.half
  script := h.script

/-- A new PC beside a change. -/
theorem Frame.withPc {c : Changes} {s t : State} (h : Frame c s t) (k : Word) :
    Frame { c with pc := true } s (t.jump k) where
  regs r e := by rw [← h.regs r e]; cases r <;> rfl
  bytes := h.bytes
  flags := h.flags
  pc e := nomatch e
  sp := h.sp
  halted := h.halted
  ie := h.ie
  shiftData := h.shiftData
  shiftOffset := h.shiftOffset
  port1 := h.port1
  port2 := h.port2
  intSched := h.intSched
  cycleAcc := h.cycleAcc
  half := h.half
  script := h.script

theorem frame_pop16 (s : State) : Frame { sp := true } s s.pop16 := by constructor <;> simp

theorem frame_setDst8 (s : State) (o : Operand) (v : Byte) :
    Frame (match o with | .reg r => { regs := [r] } | .m => { bytes := [s.hl] }) s (s.setDst8 o v) := by
  cases o with
  | reg r => exact frame_setReg s r v
  | m => exact frame_storeByte s s.hl v

theorem frame_setPair (s : State) (p : Pair) (w : Word) :
    Frame (match p with | .rp q => { regs := [q.high, q.low] } | .sp => { sp := true }) s (s.setPair p w) := by
  cases p with
  | rp q => exact frame_setRp s q w
  | sp =>
    constructor <;>
      first | rfl | (intro _ _; rfl) | (intro _; rfl) | (intro h; cases h)

/-- The accumulator and the flags, or the flags alone. -/
theorem frame_accumulate (s : State) (op : AluOp) (v : Byte) :
    Frame { regs := if op = .cmp then [] else [.a], flags := true } s (s.accumulate op v) where
  regs r hr := by cases op <;> cases r <;> first | rfl | exact absurd hr (by decide)
  bytes _ _ := by cases op <;> rfl
  flags e := nomatch e
  pc _ := by cases op <;> rfl
  sp _ := by cases op <;> rfl
  halted _ := by cases op <;> rfl
  ie _ := by cases op <;> rfl
  shiftData _ := by cases op <;> rfl
  shiftOffset _ := by cases op <;> rfl
  port1 := by cases op <;> rfl
  port2 := by cases op <;> rfl
  intSched := by cases op <;> rfl
  cycleAcc := by cases op <;> rfl
  half := by cases op <;> rfl
  script := by cases op <;> rfl

theorem frame_increment (s : State) (o : Operand) :
    Frame (match o with | .reg r => { regs := [r], flags := true } | .m => { bytes := [s.hl], flags := true }) s
      (s.increment o) := by
  cases o with
  | reg r => exact (frame_setReg s r _).withFlags _
  | m => exact (frame_storeByte s s.hl _).withFlags _

theorem frame_decrement (s : State) (o : Operand) :
    Frame (match o with | .reg r => { regs := [r], flags := true } | .m => { bytes := [s.hl], flags := true }) s
      (s.decrement o) := by
  cases o with
  | reg r => exact (frame_setReg s r _).withFlags _
  | m => exact (frame_storeByte s s.hl _).withFlags _

theorem frame_addToHl (s : State) (w : Word) : Frame { regs := [.h, .l], flags := true } s (s.addToHl w) :=
  (frame_setRp s .hl _).withFlags _

theorem frame_jump (s : State) (k : Word) : Frame { pc := true } s (s.jump k) := (Frame.refl {} s).withPc k

theorem frame_call (s : State) (k : Word) :
    Frame { pc := true, sp := true, bytes := pushedBytes s.sp } s (s.call k) :=
  (frame_push16 s s.pc).withPc k

theorem frame_ret (s : State) : Frame { pc := true, sp := true } s s.ret := (frame_pop16 s).withPc _

theorem frame_jumpIf (s : State) (cond : Cond) (k : Word) : Frame { pc := true } s (s.jumpIf cond k) := by
  unfold State.jumpIf
  split
  · exact frame_jump s k
  · exact Frame.refl _ s

theorem frame_callIf (s : State) (cond : Cond) (k : Word) :
    Frame { pc := true, sp := true, bytes := pushedBytes s.sp } s (s.callIf cond k) := by
  unfold State.callIf
  split
  · exact frame_call s k
  · exact Frame.refl _ s

theorem frame_retIf (s : State) (cond : Cond) : Frame { pc := true, sp := true } s (s.retIf cond) := by
  unfold State.retIf
  split
  · exact frame_ret s
  · exact Frame.refl _ s

theorem frame_portWrite (s : State) (p v : Byte) :
    Frame { shiftData := decide (p = 4), shiftOffset := decide (p = 2) } s (s.portWrite p v) := by
  unfold State.portWrite
  split
  · rename_i e
    obtain rfl : p = 2 := BitVec.eq_of_toNat_eq e
    constructor <;> first | rfl | (intro _ _; rfl) | (intro _; rfl) | exact fun e => nomatch e
  · rename_i e
    obtain rfl : p = 4 := BitVec.eq_of_toNat_eq e
    constructor <;> first | rfl | (intro _ _; rfl) | (intro _; rfl) | exact fun e => nomatch e
  · exact Frame.refl _ s

/-- A new accumulator and new flags. -/
theorem frame_aFlags (s : State) (v : Byte) (f : Flags) :
    Frame { regs := [.a], flags := true } s { s with a := v, flags := f } := (frame_setReg s .a v).withFlags f

theorem frame_a (s : State) (v : Byte) : Frame { regs := [.a] } s { s with a := v } := frame_setReg s .a v

theorem frame_setCarry (s : State) (cy : Bool) : Frame { flags := true } s (s.setCarry cy) :=
  (Frame.refl {} s).withFlags _

theorem frame_decimalAdjust (s : State) : Frame { regs := [.a], flags := true } s s.decimalAdjust :=
  frame_aFlags s _ _

theorem frame_rotateLeft (s : State) : Frame { regs := [.a], flags := true } s s.rotateLeft := frame_aFlags s _ _

theorem frame_rotateRight (s : State) : Frame { regs := [.a], flags := true } s s.rotateRight := frame_aFlags s _ _

theorem frame_rotateLeftCarry (s : State) : Frame { regs := [.a], flags := true } s s.rotateLeftCarry :=
  frame_aFlags s _ _

theorem frame_rotateRightCarry (s : State) : Frame { regs := [.a], flags := true } s s.rotateRightCarry :=
  frame_aFlags s _ _

theorem frame_setPsw (s : State) (w : Word) : Frame { regs := [.a], flags := true } s (s.setPsw w) :=
  frame_aFlags s _ _

theorem frame_resetCpu (s : State) :
    Frame { regs := [.a, .b, .c, .d, .e, .h, .l], flags := true, pc := true, sp := true, halted := true, ie := true }
      s s.resetCpu where
  regs r hr := absurd (show r ∈ [Reg.a, .b, .c, .d, .e, .h, .l] by cases r <;> decide) hr
  bytes _ _ := rfl
  flags e := nomatch e
  pc e := nomatch e
  sp e := nomatch e
  halted e := nomatch e
  ie e := nomatch e
  shiftData _ := rfl
  shiftOffset _ := rfl
  port1 := rfl
  port2 := rfl
  intSched := rfl
  cycleAcc := rfl
  half := rfl
  script := rfl

/-! ### The canonical form of memory -/

theorem storeByte_wf (s : State) (k : Word) (v : Byte) (h : Memory.wf s.mem) : Memory.wf (s.storeByte k v).mem :=
  Memory.write_wf s.mem k.toNat v k.isLt h

theorem storeWord_wf (s : State) (k w : Word) (h : Memory.wf s.mem) : Memory.wf (s.storeWord k w).mem :=
  storeByte_wf _ _ _ (storeByte_wf s _ _ h)

theorem push16_wf (s : State) (w : Word) (h : Memory.wf s.mem) : Memory.wf (s.push16 w).mem :=
  storeByte_wf (s.storeByte _ _) _ _ (storeByte_wf s _ _ h)

theorem setDst8_wf (s : State) (o : Operand) (v : Byte) (h : Memory.wf s.mem) : Memory.wf (s.setDst8 o v).mem := by
  cases o with
  | reg r => simpa [State.setDst8] using h
  | m => exact storeByte_wf s _ _ h

theorem requestInterrupt_wf (s : State) (v : BitVec 3) (h : Memory.wf s.mem) :
    Memory.wf (s.requestInterrupt v).mem := by
  rcases requestInterrupt_cases s v with ⟨-, e⟩ | ⟨-, e⟩
  · rw [e]
    exact h
  · rw [e]
    exact push16_wf { s with ie := false, halted := false } s.pc h

end Sys2Proof.Machine
end

