-- ==== Sys2Proof/Laws/PerInstr.lean ====
section
/-! SUPPORT. One lemma per constructor of `Instr`: its encoding is as long as its opcode byte says (30_encoding.md R81),
one to three bytes. -/

namespace Sys2Proof.Laws.EncodedLength

/-- The encoding has the length of its opcode, between 1 and 3. -/
def Statement (i : Instr) : Prop :=
  (encode i).length = opcodeLength i.opcode ∧ 1 ≤ (encode i).length ∧ (encode i).length ≤ 3

theorem nop : Statement .nop := ⟨rfl, by decide, by decide⟩
theorem lxiB (w : Word) : Statement (.lxiB w) := ⟨rfl, Nat.le_of_ble_eq_true rfl, Nat.le_of_ble_eq_true rfl⟩
theorem staxB : Statement .staxB := ⟨rfl, by decide, by decide⟩
theorem inxB : Statement .inxB := ⟨rfl, by decide, by decide⟩
theorem inrB : Statement .inrB := ⟨rfl, by decide, by decide⟩
theorem dcrB : Statement .dcrB := ⟨rfl, by decide, by decide⟩
theorem mviB (d : Byte) : Statement (.mviB d) := ⟨rfl, Nat.le_of_ble_eq_true rfl, Nat.le_of_ble_eq_true rfl⟩
theorem rlc : Statement .rlc := ⟨rfl, by decide, by decide⟩
theorem nop08 : Statement .nop08 := ⟨rfl, by decide, by decide⟩
theorem dadB : Statement .dadB := ⟨rfl, by decide, by decide⟩
theorem ldaxB : Statement .ldaxB := ⟨rfl, by decide, by decide⟩
theorem dcxB : Statement .dcxB := ⟨rfl, by decide, by decide⟩
theorem inrC : Statement .inrC := ⟨rfl, by decide, by decide⟩
theorem dcrC : Statement .dcrC := ⟨rfl, by decide, by decide⟩
theorem mviC (d : Byte) : Statement (.mviC d) := ⟨rfl, Nat.le_of_ble_eq_true rfl, Nat.le_of_ble_eq_true rfl⟩
theorem rrc : Statement .rrc := ⟨rfl, by decide, by decide⟩
theorem nop10 : Statement .nop10 := ⟨rfl, by decide, by decide⟩
theorem lxiD (w : Word) : Statement (.lxiD w) := ⟨rfl, Nat.le_of_ble_eq_true rfl, Nat.le_of_ble_eq_true rfl⟩
theorem staxD : Statement .staxD := ⟨rfl, by decide, by decide⟩
theorem inxD : Statement .inxD := ⟨rfl, by decide, by decide⟩
theorem inrD : Statement .inrD := ⟨rfl, by decide, by decide⟩
theorem dcrD : Statement .dcrD := ⟨rfl, by decide, by decide⟩
theorem mviD (d : Byte) : Statement (.mviD d) := ⟨rfl, Nat.le_of_ble_eq_true rfl, Nat.le_of_ble_eq_true rfl⟩
theorem ral : Statement .ral := ⟨rfl, by decide, by decide⟩
theorem nop18 : Statement .nop18 := ⟨rfl, by decide, by decide⟩
theorem dadD : Statement .dadD := ⟨rfl, by decide, by decide⟩
theorem ldaxD : Statement .ldaxD := ⟨rfl, by decide, by decide⟩
theorem dcxD : Statement .dcxD := ⟨rfl, by decide, by decide⟩
theorem inrE : Statement .inrE := ⟨rfl, by decide, by decide⟩
theorem dcrE : Statement .dcrE := ⟨rfl, by decide, by decide⟩
theorem mviE (d : Byte) : Statement (.mviE d) := ⟨rfl, Nat.le_of_ble_eq_true rfl, Nat.le_of_ble_eq_true rfl⟩
theorem rar : Statement .rar := ⟨rfl, by decide, by decide⟩
theorem nop20 : Statement .nop20 := ⟨rfl, by decide, by decide⟩
theorem lxiH (w : Word) : Statement (.lxiH w) := ⟨rfl, Nat.le_of_ble_eq_true rfl, Nat.le_of_ble_eq_true rfl⟩
theorem shld (a : Word) : Statement (.shld a) := ⟨rfl, Nat.le_of_ble_eq_true rfl, Nat.le_of_ble_eq_true rfl⟩
theorem inxH : Statement .inxH := ⟨rfl, by decide, by decide⟩
theorem inrH : Statement .inrH := ⟨rfl, by decide, by decide⟩
theorem dcrH : Statement .dcrH := ⟨rfl, by decide, by decide⟩
theorem mviH (d : Byte) : Statement (.mviH d) := ⟨rfl, Nat.le_of_ble_eq_true rfl, Nat.le_of_ble_eq_true rfl⟩
theorem daa : Statement .daa := ⟨rfl, by decide, by decide⟩
theorem nop28 : Statement .nop28 := ⟨rfl, by decide, by decide⟩
theorem dadH : Statement .dadH := ⟨rfl, by decide, by decide⟩
theorem lhld (a : Word) : Statement (.lhld a) := ⟨rfl, Nat.le_of_ble_eq_true rfl, Nat.le_of_ble_eq_true rfl⟩
theorem dcxH : Statement .dcxH := ⟨rfl, by decide, by decide⟩
theorem inrL : Statement .inrL := ⟨rfl, by decide, by decide⟩
theorem dcrL : Statement .dcrL := ⟨rfl, by decide, by decide⟩
theorem mviL (d : Byte) : Statement (.mviL d) := ⟨rfl, Nat.le_of_ble_eq_true rfl, Nat.le_of_ble_eq_true rfl⟩
theorem cma : Statement .cma := ⟨rfl, by decide, by decide⟩
theorem nop30 : Statement .nop30 := ⟨rfl, by decide, by decide⟩
theorem lxiSp (w : Word) : Statement (.lxiSp w) := ⟨rfl, Nat.le_of_ble_eq_true rfl, Nat.le_of_ble_eq_true rfl⟩
theorem sta (a : Word) : Statement (.sta a) := ⟨rfl, Nat.le_of_ble_eq_true rfl, Nat.le_of_ble_eq_true rfl⟩
theorem inxSp : Statement .inxSp := ⟨rfl, by decide, by decide⟩
theorem inrM : Statement .inrM := ⟨rfl, by decide, by decide⟩
theorem dcrM : Statement .dcrM := ⟨rfl, by decide, by decide⟩
theorem mviM (d : Byte) : Statement (.mviM d) := ⟨rfl, Nat.le_of_ble_eq_true rfl, Nat.le_of_ble_eq_true rfl⟩
theorem stc : Statement .stc := ⟨rfl, by decide, by decide⟩
theorem nop38 : Statement .nop38 := ⟨rfl, by decide, by decide⟩
theorem dadSp : Statement .dadSp := ⟨rfl, by decide, by decide⟩
theorem lda (a : Word) : Statement (.lda a) := ⟨rfl, Nat.le_of_ble_eq_true rfl, Nat.le_of_ble_eq_true rfl⟩
theorem dcxSp : Statement .dcxSp := ⟨rfl, by decide, by decide⟩
theorem inrA : Statement .inrA := ⟨rfl, by decide, by decide⟩
theorem dcrA : Statement .dcrA := ⟨rfl, by decide, by decide⟩
theorem mviA (d : Byte) : Statement (.mviA d) := ⟨rfl, Nat.le_of_ble_eq_true rfl, Nat.le_of_ble_eq_true rfl⟩
theorem cmc : Statement .cmc := ⟨rfl, by decide, by decide⟩
theorem movBB : Statement .movBB := ⟨rfl, by decide, by decide⟩
theorem movBC : Statement .movBC := ⟨rfl, by decide, by decide⟩
theorem movBD : Statement .movBD := ⟨rfl, by decide, by decide⟩
theorem movBE : Statement .movBE := ⟨rfl, by decide, by decide⟩
theorem movBH : Statement .movBH := ⟨rfl, by decide, by decide⟩
theorem movBL : Statement .movBL := ⟨rfl, by decide, by decide⟩
theorem movBM : Statement .movBM := ⟨rfl, by decide, by decide⟩
theorem movBA : Statement .movBA := ⟨rfl, by decide, by decide⟩
theorem movCB : Statement .movCB := ⟨rfl, by decide, by decide⟩
theorem movCC : Statement .movCC := ⟨rfl, by decide, by decide⟩
theorem movCD : Statement .movCD := ⟨rfl, by decide, by decide⟩
theorem movCE : Statement .movCE := ⟨rfl, by decide, by decide⟩
theorem movCH : Statement .movCH := ⟨rfl, by decide, by decide⟩
theorem movCL : Statement .movCL := ⟨rfl, by decide, by decide⟩
theorem movCM : Statement .movCM := ⟨rfl, by decide, by decide⟩
theorem movCA : Statement .movCA := ⟨rfl, by decide, by decide⟩
theorem movDB : Statement .movDB := ⟨rfl, by decide, by decide⟩
theorem movDC : Statement .movDC := ⟨rfl, by decide, by decide⟩
theorem movDD : Statement .movDD := ⟨rfl, by decide, by decide⟩
theorem movDE : Statement .movDE := ⟨rfl, by decide, by decide⟩
theorem movDH : Statement .movDH := ⟨rfl, by decide, by decide⟩
theorem movDL : Statement .movDL := ⟨rfl, by decide, by decide⟩
theorem movDM : Statement .movDM := ⟨rfl, by decide, by decide⟩
theorem movDA : Statement .movDA := ⟨rfl, by decide, by decide⟩
theorem movEB : Statement .movEB := ⟨rfl, by decide, by decide⟩
theorem movEC : Statement .movEC := ⟨rfl, by decide, by decide⟩
theorem movED : Statement .movED := ⟨rfl, by decide, by decide⟩
theorem movEE : Statement .movEE := ⟨rfl, by decide, by decide⟩
theorem movEH : Statement .movEH := ⟨rfl, by decide, by decide⟩
theorem movEL : Statement .movEL := ⟨rfl, by decide, by decide⟩
theorem movEM : Statement .movEM := ⟨rfl, by decide, by decide⟩
theorem movEA : Statement .movEA := ⟨rfl, by decide, by decide⟩
theorem movHB : Statement .movHB := ⟨rfl, by decide, by decide⟩
theorem movHC : Statement .movHC := ⟨rfl, by decide, by decide⟩
theorem movHD : Statement .movHD := ⟨rfl, by decide, by decide⟩
theorem movHE : Statement .movHE := ⟨rfl, by decide, by decide⟩
theorem movHH : Statement .movHH := ⟨rfl, by decide, by decide⟩
theorem movHL : Statement .movHL := ⟨rfl, by decide, by decide⟩
theorem movHM : Statement .movHM := ⟨rfl, by decide, by decide⟩
theorem movHA : Statement .movHA := ⟨rfl, by decide, by decide⟩
theorem movLB : Statement .movLB := ⟨rfl, by decide, by decide⟩
theorem movLC : Statement .movLC := ⟨rfl, by decide, by decide⟩
theorem movLD : Statement .movLD := ⟨rfl, by decide, by decide⟩
theorem movLE : Statement .movLE := ⟨rfl, by decide, by decide⟩
theorem movLH : Statement .movLH := ⟨rfl, by decide, by decide⟩
theorem movLL : Statement .movLL := ⟨rfl, by decide, by decide⟩
theorem movLM : Statement .movLM := ⟨rfl, by decide, by decide⟩
theorem movLA : Statement .movLA := ⟨rfl, by decide, by decide⟩
theorem movMB : Statement .movMB := ⟨rfl, by decide, by decide⟩
theorem movMC : Statement .movMC := ⟨rfl, by decide, by decide⟩
theorem movMD : Statement .movMD := ⟨rfl, by decide, by decide⟩
theorem movME : Statement .movME := ⟨rfl, by decide, by decide⟩
theorem movMH : Statement .movMH := ⟨rfl, by decide, by decide⟩
theorem movML : Statement .movML := ⟨rfl, by decide, by decide⟩
theorem hlt : Statement .hlt := ⟨rfl, by decide, by decide⟩
theorem movMA : Statement .movMA := ⟨rfl, by decide, by decide⟩
theorem movAB : Statement .movAB := ⟨rfl, by decide, by decide⟩
theorem movAC : Statement .movAC := ⟨rfl, by decide, by decide⟩
theorem movAD : Statement .movAD := ⟨rfl, by decide, by decide⟩
theorem movAE : Statement .movAE := ⟨rfl, by decide, by decide⟩
theorem movAH : Statement .movAH := ⟨rfl, by decide, by decide⟩
theorem movAL : Statement .movAL := ⟨rfl, by decide, by decide⟩
theorem movAM : Statement .movAM := ⟨rfl, by decide, by decide⟩
theorem movAA : Statement .movAA := ⟨rfl, by decide, by decide⟩
theorem addB : Statement .addB := ⟨rfl, by decide, by decide⟩
theorem addC : Statement .addC := ⟨rfl, by decide, by decide⟩
theorem addD : Statement .addD := ⟨rfl, by decide, by decide⟩
theorem addE : Statement .addE := ⟨rfl, by decide, by decide⟩
theorem addH : Statement .addH := ⟨rfl, by decide, by decide⟩
theorem addL : Statement .addL := ⟨rfl, by decide, by decide⟩
theorem addM : Statement .addM := ⟨rfl, by decide, by decide⟩
theorem addA : Statement .addA := ⟨rfl, by decide, by decide⟩
theorem adcB : Statement .adcB := ⟨rfl, by decide, by decide⟩
theorem adcC : Statement .adcC := ⟨rfl, by decide, by decide⟩
theorem adcD : Statement .adcD := ⟨rfl, by decide, by decide⟩
theorem adcE : Statement .adcE := ⟨rfl, by decide, by decide⟩
theorem adcH : Statement .adcH := ⟨rfl, by decide, by decide⟩
theorem adcL : Statement .adcL := ⟨rfl, by decide, by decide⟩
theorem adcM : Statement .adcM := ⟨rfl, by decide, by decide⟩
theorem adcA : Statement .adcA := ⟨rfl, by decide, by decide⟩
theorem subB : Statement .subB := ⟨rfl, by decide, by decide⟩
theorem subC : Statement .subC := ⟨rfl, by decide, by decide⟩
theorem subD : Statement .subD := ⟨rfl, by decide, by decide⟩
theorem subE : Statement .subE := ⟨rfl, by decide, by decide⟩
theorem subH : Statement .subH := ⟨rfl, by decide, by decide⟩
theorem subL : Statement .subL := ⟨rfl, by decide, by decide⟩
theorem subM : Statement .subM := ⟨rfl, by decide, by decide⟩
theorem subA : Statement .subA := ⟨rfl, by decide, by decide⟩
theorem sbbB : Statement .sbbB := ⟨rfl, by decide, by decide⟩
theorem sbbC : Statement .sbbC := ⟨rfl, by decide, by decide⟩
theorem sbbD : Statement .sbbD := ⟨rfl, by decide, by decide⟩
theorem sbbE : Statement .sbbE := ⟨rfl, by decide, by decide⟩
theorem sbbH : Statement .sbbH := ⟨rfl, by decide, by decide⟩
theorem sbbL : Statement .sbbL := ⟨rfl, by decide, by decide⟩
theorem sbbM : Statement .sbbM := ⟨rfl, by decide, by decide⟩
theorem sbbA : Statement .sbbA := ⟨rfl, by decide, by decide⟩
theorem anaB : Statement .anaB := ⟨rfl, by decide, by decide⟩
theorem anaC : Statement .anaC := ⟨rfl, by decide, by decide⟩
theorem anaD : Statement .anaD := ⟨rfl, by decide, by decide⟩
theorem anaE : Statement .anaE := ⟨rfl, by decide, by decide⟩
theorem anaH : Statement .anaH := ⟨rfl, by decide, by decide⟩
theorem anaL : Statement .anaL := ⟨rfl, by decide, by decide⟩
theorem anaM : Statement .anaM := ⟨rfl, by decide, by decide⟩
theorem anaA : Statement .anaA := ⟨rfl, by decide, by decide⟩
theorem xraB : Statement .xraB := ⟨rfl, by decide, by decide⟩
theorem xraC : Statement .xraC := ⟨rfl, by decide, by decide⟩
theorem xraD : Statement .xraD := ⟨rfl, by decide, by decide⟩
theorem xraE : Statement .xraE := ⟨rfl, by decide, by decide⟩
theorem xraH : Statement .xraH := ⟨rfl, by decide, by decide⟩
theorem xraL : Statement .xraL := ⟨rfl, by decide, by decide⟩
theorem xraM : Statement .xraM := ⟨rfl, by decide, by decide⟩
theorem xraA : Statement .xraA := ⟨rfl, by decide, by decide⟩
theorem oraB : Statement .oraB := ⟨rfl, by decide, by decide⟩
theorem oraC : Statement .oraC := ⟨rfl, by decide, by decide⟩
theorem oraD : Statement .oraD := ⟨rfl, by decide, by decide⟩
theorem oraE : Statement .oraE := ⟨rfl, by decide, by decide⟩
theorem oraH : Statement .oraH := ⟨rfl, by decide, by decide⟩
theorem oraL : Statement .oraL := ⟨rfl, by decide, by decide⟩
theorem oraM : Statement .oraM := ⟨rfl, by decide, by decide⟩
theorem oraA : Statement .oraA := ⟨rfl, by decide, by decide⟩
theorem cmpB : Statement .cmpB := ⟨rfl, by decide, by decide⟩
theorem cmpC : Statement .cmpC := ⟨rfl, by decide, by decide⟩
theorem cmpD : Statement .cmpD := ⟨rfl, by decide, by decide⟩
theorem cmpE : Statement .cmpE := ⟨rfl, by decide, by decide⟩
theorem cmpH : Statement .cmpH := ⟨rfl, by decide, by decide⟩
theorem cmpL : Statement .cmpL := ⟨rfl, by decide, by decide⟩
theorem cmpM : Statement .cmpM := ⟨rfl, by decide, by decide⟩
theorem cmpA : Statement .cmpA := ⟨rfl, by decide, by decide⟩
theorem rnz : Statement .rnz := ⟨rfl, by decide, by decide⟩
theorem popB : Statement .popB := ⟨rfl, by decide, by decide⟩
theorem jnz (a : Word) : Statement (.jnz a) := ⟨rfl, Nat.le_of_ble_eq_true rfl, Nat.le_of_ble_eq_true rfl⟩
theorem jmp (a : Word) : Statement (.jmp a) := ⟨rfl, Nat.le_of_ble_eq_true rfl, Nat.le_of_ble_eq_true rfl⟩
theorem cnz (a : Word) : Statement (.cnz a) := ⟨rfl, Nat.le_of_ble_eq_true rfl, Nat.le_of_ble_eq_true rfl⟩
theorem pushB : Statement .pushB := ⟨rfl, by decide, by decide⟩
theorem adi (d : Byte) : Statement (.adi d) := ⟨rfl, Nat.le_of_ble_eq_true rfl, Nat.le_of_ble_eq_true rfl⟩
theorem rst0 : Statement .rst0 := ⟨rfl, by decide, by decide⟩
theorem rz : Statement .rz := ⟨rfl, by decide, by decide⟩
theorem ret : Statement .ret := ⟨rfl, by decide, by decide⟩
theorem jz (a : Word) : Statement (.jz a) := ⟨rfl, Nat.le_of_ble_eq_true rfl, Nat.le_of_ble_eq_true rfl⟩
theorem jmpCB (a : Word) : Statement (.jmpCB a) := ⟨rfl, Nat.le_of_ble_eq_true rfl, Nat.le_of_ble_eq_true rfl⟩
theorem cz (a : Word) : Statement (.cz a) := ⟨rfl, Nat.le_of_ble_eq_true rfl, Nat.le_of_ble_eq_true rfl⟩
theorem call (a : Word) : Statement (.call a) := ⟨rfl, Nat.le_of_ble_eq_true rfl, Nat.le_of_ble_eq_true rfl⟩
theorem aci (d : Byte) : Statement (.aci d) := ⟨rfl, Nat.le_of_ble_eq_true rfl, Nat.le_of_ble_eq_true rfl⟩
theorem rst1 : Statement .rst1 := ⟨rfl, by decide, by decide⟩
theorem rnc : Statement .rnc := ⟨rfl, by decide, by decide⟩
theorem popD : Statement .popD := ⟨rfl, by decide, by decide⟩
theorem jnc (a : Word) : Statement (.jnc a) := ⟨rfl, Nat.le_of_ble_eq_true rfl, Nat.le_of_ble_eq_true rfl⟩
theorem outPort (p : Byte) : Statement (.outPort p) := ⟨rfl, Nat.le_of_ble_eq_true rfl, Nat.le_of_ble_eq_true rfl⟩
theorem cnc (a : Word) : Statement (.cnc a) := ⟨rfl, Nat.le_of_ble_eq_true rfl, Nat.le_of_ble_eq_true rfl⟩
theorem pushD : Statement .pushD := ⟨rfl, by decide, by decide⟩
theorem sui (d : Byte) : Statement (.sui d) := ⟨rfl, Nat.le_of_ble_eq_true rfl, Nat.le_of_ble_eq_true rfl⟩
theorem rst2 : Statement .rst2 := ⟨rfl, by decide, by decide⟩
theorem rc : Statement .rc := ⟨rfl, by decide, by decide⟩
theorem retD9 : Statement .retD9 := ⟨rfl, by decide, by decide⟩
theorem jc (a : Word) : Statement (.jc a) := ⟨rfl, Nat.le_of_ble_eq_true rfl, Nat.le_of_ble_eq_true rfl⟩
theorem inPort (p : Byte) : Statement (.inPort p) := ⟨rfl, Nat.le_of_ble_eq_true rfl, Nat.le_of_ble_eq_true rfl⟩
theorem cc (a : Word) : Statement (.cc a) := ⟨rfl, Nat.le_of_ble_eq_true rfl, Nat.le_of_ble_eq_true rfl⟩
theorem callDD (a : Word) : Statement (.callDD a) := ⟨rfl, Nat.le_of_ble_eq_true rfl, Nat.le_of_ble_eq_true rfl⟩
theorem sbi (d : Byte) : Statement (.sbi d) := ⟨rfl, Nat.le_of_ble_eq_true rfl, Nat.le_of_ble_eq_true rfl⟩
theorem rst3 : Statement .rst3 := ⟨rfl, by decide, by decide⟩
theorem rpo : Statement .rpo := ⟨rfl, by decide, by decide⟩
theorem popH : Statement .popH := ⟨rfl, by decide, by decide⟩
theorem jpo (a : Word) : Statement (.jpo a) := ⟨rfl, Nat.le_of_ble_eq_true rfl, Nat.le_of_ble_eq_true rfl⟩
theorem xthl : Statement .xthl := ⟨rfl, by decide, by decide⟩
theorem cpo (a : Word) : Statement (.cpo a) := ⟨rfl, Nat.le_of_ble_eq_true rfl, Nat.le_of_ble_eq_true rfl⟩
theorem pushH : Statement .pushH := ⟨rfl, by decide, by decide⟩
theorem ani (d : Byte) : Statement (.ani d) := ⟨rfl, Nat.le_of_ble_eq_true rfl, Nat.le_of_ble_eq_true rfl⟩
theorem rst4 : Statement .rst4 := ⟨rfl, by decide, by decide⟩
theorem rpe : Statement .rpe := ⟨rfl, by decide, by decide⟩
theorem pchl : Statement .pchl := ⟨rfl, by decide, by decide⟩
theorem jpe (a : Word) : Statement (.jpe a) := ⟨rfl, Nat.le_of_ble_eq_true rfl, Nat.le_of_ble_eq_true rfl⟩
theorem xchg : Statement .xchg := ⟨rfl, by decide, by decide⟩
theorem cpe (a : Word) : Statement (.cpe a) := ⟨rfl, Nat.le_of_ble_eq_true rfl, Nat.le_of_ble_eq_true rfl⟩
theorem callED (a : Word) : Statement (.callED a) := ⟨rfl, Nat.le_of_ble_eq_true rfl, Nat.le_of_ble_eq_true rfl⟩
theorem xri (d : Byte) : Statement (.xri d) := ⟨rfl, Nat.le_of_ble_eq_true rfl, Nat.le_of_ble_eq_true rfl⟩
theorem rst5 : Statement .rst5 := ⟨rfl, by decide, by decide⟩
theorem rp : Statement .rp := ⟨rfl, by decide, by decide⟩
theorem popPsw : Statement .popPsw := ⟨rfl, by decide, by decide⟩
theorem jp (a : Word) : Statement (.jp a) := ⟨rfl, Nat.le_of_ble_eq_true rfl, Nat.le_of_ble_eq_true rfl⟩
theorem di : Statement .di := ⟨rfl, by decide, by decide⟩
theorem cp (a : Word) : Statement (.cp a) := ⟨rfl, Nat.le_of_ble_eq_true rfl, Nat.le_of_ble_eq_true rfl⟩
theorem pushPsw : Statement .pushPsw := ⟨rfl, by decide, by decide⟩
theorem ori (d : Byte) : Statement (.ori d) := ⟨rfl, Nat.le_of_ble_eq_true rfl, Nat.le_of_ble_eq_true rfl⟩
theorem rst6 : Statement .rst6 := ⟨rfl, by decide, by decide⟩
theorem rm : Statement .rm := ⟨rfl, by decide, by decide⟩
theorem sphl : Statement .sphl := ⟨rfl, by decide, by decide⟩
theorem jm (a : Word) : Statement (.jm a) := ⟨rfl, Nat.le_of_ble_eq_true rfl, Nat.le_of_ble_eq_true rfl⟩
theorem ei : Statement .ei := ⟨rfl, by decide, by decide⟩
theorem cm (a : Word) : Statement (.cm a) := ⟨rfl, Nat.le_of_ble_eq_true rfl, Nat.le_of_ble_eq_true rfl⟩
theorem callFD (a : Word) : Statement (.callFD a) := ⟨rfl, Nat.le_of_ble_eq_true rfl, Nat.le_of_ble_eq_true rfl⟩
theorem cpi (d : Byte) : Statement (.cpi d) := ⟨rfl, Nat.le_of_ble_eq_true rfl, Nat.le_of_ble_eq_true rfl⟩
theorem rst7 : Statement .rst7 := ⟨rfl, by decide, by decide⟩

end Sys2Proof.Laws.EncodedLength
end

