-- ==== Sys2Proof/Tests/Slice0.lean ====
section
/-! SUPPORT. Tests. Part 1: ill-formed byte sequences, one for each check of WellFormed. Part 2: words written out from
the encodings of 30_encoding.md. Part 3: single steps, each the vector of 95_test_vectors.md named in its comment, with the
rule it follows. Part 4: for every obligation that has hypotheses, states and operands that meet them. -/

namespace Sys2Proof.Tests

open Sys2Proof.Machine

/-! ### Part 1: WellFormed refuses -/

theorem test_illformed_empty : bytesWellFormed [] = false := by decide

theorem test_illformed_missing_operand : bytesWellFormed [0xC3, 0x00] = false := by decide

theorem test_illformed_left_over : bytesWellFormed [0x00, 0x00] = false := by decide

theorem test_wellformed_lengths :
    (bytesWellFormed [0x76] && bytesWellFormed [0x3E, 0x42] && bytesWellFormed [0xC3, 0x00, 0x3E]) = true := by decide

/-- Each check alone refuses one of the three. -/
theorem test_each_check_is_needed :
    hasOpcode [] = false ∧ (hasOpcode [0xC3, 0x00] = true ∧ hasOperands [0xC3, 0x00] = false) ∧
      (hasOpcode [0x00, 0x00] = true ∧ hasOperands [0x00, 0x00] = true ∧ hasNoMore [0x00, 0x00] = false) := by decide

theorem test_decode_refuses_nothing : decodeBytes [] = .error .noOpcode := rfl

theorem test_decode_refuses_truncated : decodeBytes [0xC3, 0x00] = .error (.truncated 0xC3 3) := rfl

/-! ### Part 2: words from the encodings of the spec -/

/-- R103. -/
theorem test_word_mov_b_c : decode (0b01#2 ++ 0#3 ++ 1#3) 0xAA 0xBB = .movBC := by decide

/-- R104. -/
theorem test_word_mov_a_m : decode (0b01#2 ++ 7#3 ++ 6#3) 0xAA 0xBB = .movAM := by decide

/-- R105. -/
theorem test_word_mov_m_h : decode (0b01110#5 ++ 4#3) 0xAA 0xBB = .movMH := by decide

/-- R106. -/
theorem test_word_mvi_l : decode (0b00#2 ++ 5#3 ++ 0b110#3) 0xAA 0xBB = .mviL 0xAA := by decide

/-- R107. -/
theorem test_word_mvi_m : decode (0x36#8) 0xAA 0xBB = .mviM 0xAA := by decide

/-- R108. -/
theorem test_word_lxi_sp : decode (0b00#2 ++ 3#2 ++ 0b0001#4) 0xAA 0xBB = .lxiSp 0xBBAA := by decide

/-- R109. -/
theorem test_word_lda : decode (0x3A#8) 0xAA 0xBB = .lda 0xBBAA := by decide

/-- R112. -/
theorem test_word_shld : decode (0x22#8) 0xAA 0xBB = .shld 0xBBAA := by decide

/-- R114. -/
theorem test_word_stax_d : decode (0b000#3 ++ 1#1 ++ 0b0010#4) 0xAA 0xBB = .staxD := by decide

/-- R116. -/
theorem test_word_xthl : decode (0xE3#8) 0xAA 0xBB = .xthl := by decide

/-- R126. -/
theorem test_word_sbb_m : decode (0b10#2 ++ 3#3 ++ 6#3) 0xAA 0xBB = .sbbM := by decide

/-- R126. -/
theorem test_word_cpi : decode (0b11#2 ++ 7#3 ++ 0b110#3) 0xAA 0xBB = .cpi 0xAA := by decide

/-- R153. -/
theorem test_word_inr_a : decode (0b00#2 ++ 7#3 ++ 0b100#3) 0xAA 0xBB = .inrA := by decide

/-- R156. -/
theorem test_word_dcr_m : decode (0x35#8) 0xAA 0xBB = .dcrM := by decide

/-- R158. -/
theorem test_word_dcx_h : decode (0b00#2 ++ 2#2 ++ 0b1011#4) 0xAA 0xBB = .dcxH := by decide

/-- R159. -/
theorem test_word_dad_sp : decode (0b00#2 ++ 3#2 ++ 0b1001#4) 0xAA 0xBB = .dadSp := by decide

/-- R171. -/
theorem test_word_rar : decode (0x1F#8) 0xAA 0xBB = .rar := by decide

/-- R184. -/
theorem test_word_jpo : decode (0b11#2 ++ 4#3 ++ 0b010#3) 0xAA 0xBB = .jpo 0xBBAA := by decide

/-- R188. -/
theorem test_word_cm : decode (0b11#2 ++ 7#3 ++ 0b100#3) 0xAA 0xBB = .cm 0xBBAA := by decide

/-- R191. -/
theorem test_word_rp : decode (0b11#2 ++ 6#3 ++ 0b000#3) 0xAA 0xBB = .rp := by decide

/-- R192. -/
theorem test_word_rst5 : decode (0b11#2 ++ 5#3 ++ 0b111#3) 0xAA 0xBB = .rst5 := by decide

/-- R202. -/
theorem test_word_push_d : decode (0b11#2 ++ 1#2 ++ 0b0101#4) 0xAA 0xBB = .pushD := by decide

/-- R205. -/
theorem test_word_pop_psw : decode (0xF1#8) 0xAA 0xBB = .popPsw := by decide

/-- R211. -/
theorem test_word_in : decode (0xDB#8) 0xAA 0xBB = .inPort 0xAA := by decide

/-- R212. -/
theorem test_word_out : decode (0xD3#8) 0xAA 0xBB = .outPort 0xAA := by decide

/-- R232. -/
theorem test_word_hlt : decode (0x76#8) 0xAA 0xBB = .hlt := by decide

/-- R233. -/
theorem test_word_ei : decode (0xFB#8) 0xAA 0xBB = .ei := by decide

/-- R187. -/
theorem test_word_call_alias : decode (0xED#8) 0xAA 0xBB = .callED 0xBBAA := by decide

/-- R54: the table's bit numbering, the first byte lowest; the operand word low byte first. -/
theorem test_table_word : decodeTableWord 24 0x1234CD = some (.call 0x1234) := by decide

/-- Operand bits the table gives no place are zero. -/
theorem test_table_word_short : decodeTableWord 8 0xCD = some (.call 0) := by decide

/-! ### Part 3: single steps -/

/-- The defaults of 95_test_vectors.md Part 2. -/
def start : State := { State.reset with pc := 0x100, sp := 0x2400 }

def flagsOf (s z ac p cy : Bool) : Flags := { s := s, z := z, ac := ac, p := p, cy := cy }

/-- Bytes put where PC stands and after. -/
def atPc (bytes : List Byte) (s : State) : State :=
  (bytes.zipIdx).foldl (fun t c => t.storeByte (s.pc + BitVec.ofNat 16 c.2) c.1) s

/-- One step answers a next state with the property. -/
def ranTo (s : State) (p : State → Bool) : Bool :=
  match step s with
  | .next t => p t
  | .fault _ => false
  | .refused _ => false

/-- V1: R103. -/
theorem test_v1_mov_b_c :
    ranTo (atPc [0x41] { start with b := 0x11, c := 0x5A, flags := flagsOf false true false false true })
      (fun t => t.b == 0x5A && t.pc == 0x0101 && t.flags == flagsOf false true false false true) = true := by decide

/-- V3: R104. -/
theorem test_v3_mov_e_m :
    ranTo (atPc [0x5E] { start with h := 0x20, l := 0x10, mem := [(0x2010, 0xC4)] })
      (fun t => t.e == 0xC4 && t.pc == 0x0101 && t.a == 0x0) = true := by decide

/-- V4: R105. -/
theorem test_v4_mov_m_a :
    ranTo (atPc [0x77] { start with a := 0x9C, h := 0xFF, l := 0xFF })
      (fun t => t.pc == 0x0101 && t.byteAt 0xFFFF == 0x9C) = true := by decide

/-- V6: R106. -/
theorem test_v6_mvi_l_fe :
    ranTo (atPc [0x2E, 0xFE] start)
      (fun t => t.l == 0xFE && t.pc == 0x0102 && t.a == 0x0) = true := by decide

/-- V7: R107. -/
theorem test_v7_mvi_m_3c :
    ranTo (atPc [0x36, 0x3C] { start with h := 0x24 })
      (fun t => t.pc == 0x0102 && t.byteAt 0x2400 == 0x3C) = true := by decide

/-- V8: R108. -/
theorem test_v8_lxi_sp_23ff :
    ranTo (atPc [0x31, 0xFF, 0x23] { start with sp := 0x0 })
      (fun t => t.pc == 0x0103 && t.sp == 0x23FF && t.a == 0x0) = true := by decide

/-- V9: R108. -/
theorem test_v9_lxi_d_1234 :
    ranTo (atPc [0x11, 0x34, 0x12] start)
      (fun t => t.d == 0x12 && t.e == 0x34 && t.pc == 0x0103) = true := by decide

/-- V10: R109. -/
theorem test_v10_lda_ffff :
    ranTo (atPc [0x3A, 0xFF, 0xFF] { start with mem := [(0xFFFF, 0x81)] })
      (fun t => t.a == 0x81 && t.pc == 0x0103) = true := by decide

/-- V11: R110. -/
theorem test_v11_sta_0000 :
    ranTo (atPc [0x32, 0x00, 0x00] { start with a := 0x42 })
      (fun t => t.pc == 0x0103 && t.byteAt 0x0000 == 0x42) = true := by decide

/-- V12: R111. -/
theorem test_v12_lhld_ffff :
    ranTo (atPc [0x2A, 0xFF, 0xFF] { start with mem := [(0x0000, 0x12), (0xFFFF, 0x34)] })
      (fun t => t.h == 0x12 && t.l == 0x34 && t.pc == 0x0103) = true := by decide

/-- V13: R112. -/
theorem test_v13_shld_2100 :
    ranTo (atPc [0x22, 0x00, 0x21] { start with h := 0xAE, l := 0x29 })
      (fun t => t.pc == 0x0103 && t.byteAt 0x2100 == 0x29 && t.byteAt 0x2101 == 0xAE) = true := by decide

/-- V14: R113. -/
theorem test_v14_ldax_d :
    ranTo (atPc [0x1A] { start with d := 0x93, e := 0x8B, mem := [(0x938B, 0x5F)] })
      (fun t => t.a == 0x5F && t.pc == 0x0101) = true := by decide

/-- V15: R114. -/
theorem test_v15_stax_b :
    ranTo (atPc [0x02] { start with a := 0x7E, b := 0x3F, c := 0x16 })
      (fun t => t.pc == 0x0101 && t.byteAt 0x3F16 == 0x7E) = true := by decide

/-- V16: R115. -/
theorem test_v16_xchg :
    ranTo (atPc [0xEB] { start with d := 0x33, e := 0x55, l := 0xFF })
      (fun t => t.d == 0x0 && t.e == 0xFF && t.h == 0x33 && t.l == 0x55 && t.pc == 0x0101) = true := by decide

/-- V17: R116. -/
theorem test_v17_xthl :
    ranTo (atPc [0xE3] { start with h := 0xB, l := 0x3C, sp := 0x10AD, mem := [(0x10AD, 0xF0), (0x10AE, 0x0D)] })
      (fun t => t.h == 0xD && t.l == 0xF0 && t.pc == 0x0101 && t.byteAt 0x10AD == 0x3C && t.byteAt 0x10AE == 0x0B) =
      true := by decide

/-- V18: R116. -/
theorem test_v18_xthl_at_sp_ffff :
    ranTo (atPc [0xE3] { start with h := 0xAA, l := 0xBB, sp := 0xFFFF, mem := [(0x0000, 0x22), (0xFFFF, 0x11)] })
      (fun t => t.h == 0x22 && t.l == 0x11 && t.pc == 0x0101 && t.byteAt 0x0000 == 0xAA && t.byteAt 0xFFFF == 0xBB) =
      true := by decide

/-- V19: R117. -/
theorem test_v19_sphl :
    ranTo (atPc [0xF9] { start with h := 0x50, l := 0x6C })
      (fun t => t.pc == 0x0101 && t.sp == 0x506C && t.a == 0x0) = true := by decide

/-- V21: R127. -/
theorem test_v21_add_b :
    ranTo (atPc [0x80] { start with a := 0xFF, b := 0x1 })
      (fun t => t.a == 0x0 && t.pc == 0x0101 && t.flags == flagsOf false true true true true) = true := by decide

/-- V22: R127. -/
theorem test_v22_add_b :
    ranTo (atPc [0x80] { start with a := 0x7F, b := 0x1 })
      (fun t => t.a == 0x80 && t.pc == 0x0101 && t.flags == flagsOf true false true false false) = true := by decide

/-- V25: R129. -/
theorem test_v25_adc_b :
    ranTo (atPc [0x88] { start with a := 0xFF, flags := flagsOf false false false false true })
      (fun t => t.a == 0x0 && t.pc == 0x0101 && t.flags == flagsOf false true true true true) = true := by decide

/-- V30: R131. -/
theorem test_v30_sub_b :
    ranTo (atPc [0x90] { start with a := 0x10, b := 0x1 })
      (fun t => t.a == 0xF && t.pc == 0x0101 && t.flags == flagsOf false false false true false) = true := by decide

/-- V31: R131. -/
theorem test_v31_sub_b :
    ranTo (atPc [0x90] { start with flags := flagsOf false false false false true })
      (fun t => t.pc == 0x0101 && t.flags == flagsOf false true true true false && t.a == 0x0) = true := by decide

/-- V33: R133. -/
theorem test_v33_sbb_b :
    ranTo (atPc [0x98] { start with b := 0xFF, flags := flagsOf false false false false true })
      (fun t => t.pc == 0x0101 && t.flags == flagsOf false true false true true && t.a == 0x0) = true := by decide

/-- V36: R135. -/
theorem test_v36_ana_b :
    ranTo (atPc [0xA0] { start with a := 0xFF, b := 0x80, flags := flagsOf false false false false true })
      (fun t => t.a == 0x80 && t.pc == 0x0101 && t.flags == flagsOf true false true false false) = true := by decide

/-- V37: R137. -/
theorem test_v37_xra_b :
    ranTo (atPc [0xA8] { start with a := 0xFF, b := 0xF, flags := flagsOf false false false false true })
      (fun t => t.a == 0xF0 && t.pc == 0x0101 && t.flags == flagsOf true false false true false) = true := by decide

/-- V39: R139. -/
theorem test_v39_ora_b :
    ranTo (atPc [0xB0] { start with a := 0x80, b := 0x1, flags := flagsOf false false false false true })
      (fun t => t.a == 0x81 && t.pc == 0x0101 && t.flags == flagsOf true false false true false) = true := by decide

/-- V40: R141. -/
theorem test_v40_cmp_b :
    ranTo (atPc [0xB8] { start with a := 0x7F, b := 0x80 })
      (fun t => t.pc == 0x0101 && t.flags == flagsOf true false true true true && t.a == 0x7F) = true := by decide

/-- V42: R141. -/
theorem test_v42_cmp_b :
    ranTo (atPc [0xB8] { start with a := 0x55, b := 0x55, flags := flagsOf false false false false true })
      (fun t => t.pc == 0x0101 && t.flags == flagsOf false true true true false && t.a == 0x55) = true := by decide

/-- V44: R127. -/
theorem test_v44_add_a :
    ranTo (atPc [0x87] { start with a := 0x88 })
      (fun t => t.a == 0x10 && t.pc == 0x0101 && t.flags == flagsOf false false true false true) = true := by decide

/-- V45: R131. -/
theorem test_v45_sub_a :
    ranTo (atPc [0x97] { start with a := 0x5C, flags := flagsOf false false false false true })
      (fun t => t.a == 0x0 && t.pc == 0x0101 && t.flags == flagsOf false true true true false) = true := by decide

/-- V46: R137. -/
theorem test_v46_xra_a :
    ranTo (atPc [0xAF] { start with a := 0xC3, flags := flagsOf false false true false true })
      (fun t => t.a == 0x0 && t.pc == 0x0101 && t.flags == flagsOf false true false true false) = true := by decide

/-- V47: R127. -/
theorem test_v47_add_m :
    ranTo (atPc [0x86] { start with a := 0x6C, h := 0x20, mem := [(0x2000, 0x2E)] })
      (fun t => t.a == 0x9A && t.pc == 0x0101 && t.flags == flagsOf true false true true false) = true := by decide

/-- V48: R128. -/
theorem test_v48_adi_42 :
    ranTo (atPc [0xC6, 0x42] { start with a := 0x14 })
      (fun t => t.a == 0x56 && t.pc == 0x0102 && t.flags == flagsOf false false false true false) = true := by decide

/-- V49: R130. -/
theorem test_v49_aci_00 :
    ranTo (atPc [0xCE, 0x00] { start with a := 0xFF, flags := flagsOf false false false false true })
      (fun t => t.a == 0x0 && t.pc == 0x0102 && t.flags == flagsOf false true true true true) = true := by decide

/-- V50: R132. -/
theorem test_v50_sui_01 :
    ranTo (atPc [0xD6, 0x01] start)
      (fun t => t.a == 0xFF && t.pc == 0x0102 && t.flags == flagsOf true false false true true) = true := by decide

/-- V51: R134. -/
theorem test_v51_sbi_01 :
    ranTo (atPc [0xDE, 0x01] { start with flags := flagsOf false false false false true })
      (fun t => t.a == 0xFE && t.pc == 0x0102 && t.flags == flagsOf true false false false true) = true := by decide

/-- V52: R136. -/
theorem test_v52_ani_0f :
    ranTo (atPc [0xE6, 0x0F] { start with a := 0x3A, flags := flagsOf false false false false true })
      (fun t => t.a == 0xA && t.pc == 0x0102 && t.flags == flagsOf false false true true false) = true := by decide

/-- V53: R138. -/
theorem test_v53_xri_81 :
    ranTo (atPc [0xEE, 0x81] { start with a := 0x3B, flags := flagsOf false false true false true })
      (fun t => t.a == 0xBA && t.pc == 0x0102 && t.flags == flagsOf true false false false false) = true := by decide

/-- V54: R140. -/
theorem test_v54_ori_0f :
    ranTo (atPc [0xF6, 0x0F] { start with a := 0xB5, flags := flagsOf false false true false true })
      (fun t => t.a == 0xBF && t.pc == 0x0102 && t.flags == flagsOf true false false false false) = true := by decide

/-- V55: R142. -/
theorem test_v55_cpi_40 :
    ranTo (atPc [0xFE, 0x40] { start with a := 0x4A })
      (fun t => t.pc == 0x0102 && t.flags == flagsOf false false true true false && t.a == 0x4A) = true := by decide

/-- V56: R142. -/
theorem test_v56_cpi_00 :
    ranTo (atPc [0xFE, 0x00] { start with flags := flagsOf false false false false true })
      (fun t => t.pc == 0x0102 && t.flags == flagsOf false true true true false && t.a == 0x0) = true := by decide

/-- V57: R153. -/
theorem test_v57_inr_a :
    ranTo (atPc [0x3C] { start with a := 0xFF })
      (fun t => t.a == 0x0 && t.pc == 0x0101 && t.flags == flagsOf false true true true false) = true := by decide

/-- V59: R153. -/
theorem test_v59_inr_c :
    ranTo (atPc [0x0C] { start with c := 0x7F })
      (fun t => t.c == 0x80 && t.pc == 0x0101 && t.flags == flagsOf true false true false false) = true := by decide

/-- V60: R154. -/
theorem test_v60_inr_m :
    ranTo (atPc [0x34] { start with h := 0x25, l := 0x34, flags := flagsOf false false false false true, mem := [(0x2534, 0x0F)] })
      (fun t => t.pc == 0x0101 && t.flags == flagsOf false false true false true && t.byteAt 0x2534 == 0x10) =
      true := by decide

/-- V61: R155. -/
theorem test_v61_dcr_b :
    ranTo (atPc [0x05] start)
      (fun t => t.b == 0xFF && t.pc == 0x0101 && t.flags == flagsOf true false false true false) = true := by decide

/-- V65: R156. -/
theorem test_v65_dcr_m :
    ranTo (atPc [0x35] { start with h := 0x3A, l := 0x7C, mem := [(0x3A7C, 0x40)] })
      (fun t => t.pc == 0x0101 && t.flags == flagsOf false false false true false && t.byteAt 0x3A7C == 0x3F) =
      true := by decide

/-- V66: R157. -/
theorem test_v66_inx_h :
    ranTo (atPc [0x23] { start with h := 0xFF, l := 0xFF })
      (fun t => t.h == 0x0 && t.l == 0x0 && t.pc == 0x0101 && t.flags == flagsOf false false false false false) =
      true := by decide

/-- V67: R157. -/
theorem test_v67_inx_sp :
    ranTo (atPc [0x33] { start with sp := 0xFFFF })
      (fun t => t.pc == 0x0101 && t.sp == 0x0 && t.a == 0x0) = true := by decide

/-- V68: R157. -/
theorem test_v68_inx_d :
    ranTo (atPc [0x13] { start with d := 0x38, e := 0xFF })
      (fun t => t.d == 0x39 && t.e == 0x0 && t.pc == 0x0101) = true := by decide

/-- V69: R158. -/
theorem test_v69_dcx_b :
    ranTo (atPc [0x0B] start)
      (fun t => t.b == 0xFF && t.c == 0xFF && t.pc == 0x0101 && t.flags == flagsOf false false false false false) =
      true := by decide

/-- V70: R158. -/
theorem test_v70_dcx_h :
    ranTo (atPc [0x2B] { start with h := 0x98 })
      (fun t => t.h == 0x97 && t.l == 0xFF && t.pc == 0x0101) = true := by decide

/-- V71: R159. -/
theorem test_v71_dad_b :
    ranTo (atPc [0x09] { start with c := 0x1, h := 0xFF, l := 0xFF, flags := flagsOf true false false false false })
      (fun t => t.h == 0x0 && t.l == 0x0 && t.pc == 0x0101 && t.flags == flagsOf true false false false true) =
      true := by decide

/-- V72: R159. -/
theorem test_v72_dad_h :
    ranTo (atPc [0x29] { start with h := 0x40, flags := flagsOf false false false false true })
      (fun t => t.h == 0x80 && t.pc == 0x0101 && t.flags == flagsOf false false false false false) = true := by decide

/-- V73: R159. -/
theorem test_v73_dad_sp :
    ranTo (atPc [0x39] { start with sp := 0x23FE, flags := flagsOf false false false false true })
      (fun t => t.h == 0x23 && t.l == 0xFE && t.pc == 0x0101 && t.flags == flagsOf false false false false false) =
      true := by decide

/-- V74: R165. -/
theorem test_v74_daa :
    ranTo (atPc [0x27] start)
      (fun t => t.pc == 0x0101 && t.flags == flagsOf false true false true false && t.a == 0x0) = true := by decide

/-- V75: R165. -/
theorem test_v75_daa :
    ranTo (atPc [0x27] { start with a := 0xA })
      (fun t => t.a == 0x10 && t.pc == 0x0101 && t.flags == flagsOf false false true false false) = true := by decide

/-- V88: R168. -/
theorem test_v88_rlc :
    ranTo (atPc [0x07] { start with a := 0xF2, flags := flagsOf false true false false false })
      (fun t => t.a == 0xE5 && t.pc == 0x0101 && t.flags == flagsOf false true false false true) = true := by decide

/-- V90: R169. -/
theorem test_v90_rrc :
    ranTo (atPc [0x0F] { start with a := 0xF2, flags := flagsOf false false false false true })
      (fun t => t.a == 0x79 && t.pc == 0x0101 && t.flags == flagsOf false false false false false) = true := by decide

/-- V92: R170. -/
theorem test_v92_ral :
    ranTo (atPc [0x17] { start with a := 0xB5 })
      (fun t => t.a == 0x6A && t.pc == 0x0101 && t.flags == flagsOf false false false false true) = true := by decide

/-- V93: R170. -/
theorem test_v93_ral :
    ranTo (atPc [0x17] { start with flags := flagsOf false false false false true })
      (fun t => t.a == 0x1 && t.pc == 0x0101 && t.flags == flagsOf false false false false false) = true := by decide

/-- V94: R171. -/
theorem test_v94_rar :
    ranTo (atPc [0x1F] { start with a := 0x6A, flags := flagsOf false false false false true })
      (fun t => t.a == 0xB5 && t.pc == 0x0101 && t.flags == flagsOf false false false false false) = true := by decide

/-- V95: R171. -/
theorem test_v95_rar :
    ranTo (atPc [0x1F] { start with a := 0x1 })
      (fun t => t.a == 0x0 && t.pc == 0x0101 && t.flags == flagsOf false false false false true) = true := by decide

/-- V96: R173. -/
theorem test_v96_cma :
    ranTo (atPc [0x2F] { start with a := 0x51, flags := flagsOf false true false false true })
      (fun t => t.a == 0xAE && t.pc == 0x0101 && t.flags == flagsOf false true false false true) = true := by decide

/-- V97: R174. -/
theorem test_v97_stc :
    ranTo (atPc [0x37] start)
      (fun t => t.pc == 0x0101 && t.flags == flagsOf false false false false true && t.a == 0x0) = true := by decide

/-- V98: R175. -/
theorem test_v98_cmc :
    ranTo (atPc [0x3F] { start with flags := flagsOf false false false false true })
      (fun t => t.pc == 0x0101 && t.flags == flagsOf false false false false false && t.a == 0x0) = true := by decide

/-- V100: R182. -/
theorem test_v100_jmp_3e00 :
    ranTo (atPc [0xC3, 0x00, 0x3E] start)
      (fun t => t.pc == 0x3E00 && t.a == 0x0) = true := by decide

/-- V101: R183. -/
theorem test_v101_jmp_cb :
    ranTo (atPc [0xCB, 0x34, 0x12] start)
      (fun t => t.pc == 0x1234 && t.a == 0x0) = true := by decide

/-- V102: R184. -/
theorem test_v102_jnz_2000_z_0 :
    ranTo (atPc [0xC2, 0x00, 0x20] start)
      (fun t => t.pc == 0x2000 && t.a == 0x0) = true := by decide

/-- V103: R184. -/
theorem test_v103_jnz_2000_z_1 :
    ranTo (atPc [0xC2, 0x00, 0x20] { start with flags := flagsOf false true false false false })
      (fun t => t.pc == 0x0103 && t.a == 0x0) = true := by decide

/-- V104: R184. -/
theorem test_v104_jpe_2000_p_1 :
    ranTo (atPc [0xEA, 0x00, 0x20] { start with flags := flagsOf false false false true false })
      (fun t => t.pc == 0x2000 && t.a == 0x0) = true := by decide

/-- V105: R184. -/
theorem test_v105_jpo_2000_p_1 :
    ranTo (atPc [0xE2, 0x00, 0x20] { start with flags := flagsOf false false false true false })
      (fun t => t.pc == 0x0103 && t.a == 0x0) = true := by decide

/-- V106: R184. -/
theorem test_v106_jm_2000_s_1 :
    ranTo (atPc [0xFA, 0x00, 0x20] { start with flags := flagsOf true false false false false })
      (fun t => t.pc == 0x2000 && t.a == 0x0) = true := by decide

/-- V107: R184. -/
theorem test_v107_jp_2000_s_1 :
    ranTo (atPc [0xF2, 0x00, 0x20] { start with flags := flagsOf true false false false false })
      (fun t => t.pc == 0x0103 && t.a == 0x0) = true := by decide

/-- V108: R184. -/
theorem test_v108_jc_2000_cy_1 :
    ranTo (atPc [0xDA, 0x00, 0x20] { start with flags := flagsOf false false false false true })
      (fun t => t.pc == 0x2000 && t.a == 0x0) = true := by decide

/-- V109: R184. -/
theorem test_v109_jnc_2000_cy_1 :
    ranTo (atPc [0xD2, 0x00, 0x20] { start with flags := flagsOf false false false false true })
      (fun t => t.pc == 0x0103 && t.a == 0x0) = true := by decide

/-- V110: R182. -/
theorem test_v110_jmp_at_fffe_operand_wraps :
    ranTo (atPc [0xC3, 0x21] { start with pc := 0xFFFE, mem := [(0x0000, 0x43)] })
      (fun t => t.pc == 0x4321 && t.a == 0x0) = true := by decide

/-- V111: R185. -/
theorem test_v111_pchl :
    ranTo (atPc [0xE9] { start with h := 0x41, l := 0x3E })
      (fun t => t.pc == 0x413E && t.a == 0x0) = true := by decide

/-- V112: R186. -/
theorem test_v112_call_1000 :
    ranTo (atPc [0xCD, 0x00, 0x10] start)
      (fun t => t.pc == 0x1000 && t.sp == 0x23FE && t.byteAt 0x23FE == 0x03 && t.byteAt 0x23FF == 0x01) =
      true := by decide

/-- V113: R186. -/
theorem test_v113_call_with_sp_0001 :
    ranTo (atPc [0xCD, 0x00, 0x10] { start with sp := 0x1 })
      (fun t => t.pc == 0x1000 && t.sp == 0xFFFF && t.byteAt 0x0000 == 0x01 && t.byteAt 0xFFFF == 0x03) =
      true := by decide

/-- V114: R187. -/
theorem test_v114_call_dd :
    ranTo (atPc [0xDD, 0x00, 0x10] start)
      (fun t => t.pc == 0x1000 && t.sp == 0x23FE && t.byteAt 0x23FE == 0x03 && t.byteAt 0x23FF == 0x01) =
      true := by decide

/-- V117: R188. -/
theorem test_v117_cz_1000_z_0 :
    ranTo (atPc [0xCC, 0x00, 0x10] start)
      (fun t => t.pc == 0x0103 && t.a == 0x0) = true := by decide

/-- V118: R188. -/
theorem test_v118_cz_1000_z_1 :
    ranTo (atPc [0xCC, 0x00, 0x10] { start with flags := flagsOf false true false false false })
      (fun t => t.pc == 0x1000 && t.sp == 0x23FE && t.byteAt 0x23FE == 0x03 && t.byteAt 0x23FF == 0x01) =
      true := by decide

/-- V119: R189. -/
theorem test_v119_ret :
    ranTo (atPc [0xC9] { start with sp := 0x23FE, mem := [(0x23FE, 0x03), (0x23FF, 0x01)] })
      (fun t => t.pc == 0x0103 && t.sp == 0x2400 && t.a == 0x0) = true := by decide

/-- V120: R190. -/
theorem test_v120_ret_d9 :
    ranTo (atPc [0xD9] { start with sp := 0x23FE, mem := [(0x23FE, 0x03), (0x23FF, 0x01)] })
      (fun t => t.pc == 0x0103 && t.sp == 0x2400 && t.a == 0x0) = true := by decide

/-- V122: R191. -/
theorem test_v122_rc_cy_0 :
    ranTo (atPc [0xD8] { start with sp := 0x23FE, mem := [(0x23FE, 0x03), (0x23FF, 0x01)] })
      (fun t => t.pc == 0x0101 && t.a == 0x0) = true := by decide

/-- V123: R191. -/
theorem test_v123_rc_cy_1 :
    ranTo (atPc [0xD8] { start with sp := 0x23FE, flags := flagsOf false false false false true, mem := [(0x23FE, 0x03), (0x23FF, 0x01)] })
      (fun t => t.pc == 0x0103 && t.sp == 0x2400 && t.a == 0x0) = true := by decide

/-- V124: R192. -/
theorem test_v124_rst_0 :
    ranTo (atPc [0xC7] start)
      (fun t => t.pc == 0x0000 && t.sp == 0x23FE && t.byteAt 0x23FE == 0x01 && t.byteAt 0x23FF == 0x01) =
      true := by decide

/-- V125: R192. -/
theorem test_v125_rst_3 :
    ranTo (atPc [0xDF] start)
      (fun t => t.pc == 0x0018 && t.sp == 0x23FE && t.byteAt 0x23FE == 0x01 && t.byteAt 0x23FF == 0x01) =
      true := by decide

/-- V126: R192. -/
theorem test_v126_rst_7 :
    ranTo (atPc [0xFF] start)
      (fun t => t.pc == 0x0038 && t.sp == 0x23FE && t.byteAt 0x23FE == 0x01 && t.byteAt 0x23FF == 0x01) =
      true := by decide

/-- V128: R202. -/
theorem test_v128_push_b :
    ranTo (atPc [0xC5] { start with b := 0x12, c := 0x34 })
      (fun t => t.pc == 0x0101 && t.sp == 0x23FE && t.byteAt 0x23FE == 0x34 && t.byteAt 0x23FF == 0x12) =
      true := by decide

/-- V129: R202. -/
theorem test_v129_push_h_sp_0000 :
    ranTo (atPc [0xE5] { start with h := 0xAB, l := 0xCD, sp := 0x0 })
      (fun t => t.pc == 0x0101 && t.sp == 0xFFFE && t.byteAt 0xFFFE == 0xCD && t.byteAt 0xFFFF == 0xAB) =
      true := by decide

/-- V130: R203. -/
theorem test_v130_push_psw_after_reset_flags :
    ranTo (atPc [0xF5] start)
      (fun t => t.pc == 0x0101 && t.sp == 0x23FE && t.byteAt 0x23FE == 0x02) = true := by decide

/-- V131: R203. -/
theorem test_v131_push_psw_all_flags :
    ranTo (atPc [0xF5] { start with a := 0xFF, flags := flagsOf true true true true true })
      (fun t => t.pc == 0x0101 && t.sp == 0x23FE && t.byteAt 0x23FE == 0xD7 && t.byteAt 0x23FF == 0xFF) =
      true := by decide

/-- V132: R204. -/
theorem test_v132_pop_d :
    ranTo (atPc [0xD1] { start with sp := 0x23FE, mem := [(0x23FE, 0x9D), (0x23FF, 0x8F)] })
      (fun t => t.d == 0x8F && t.e == 0x9D && t.pc == 0x0101 && t.sp == 0x2400) = true := by decide

/-- V133: R205. -/
theorem test_v133_pop_psw_ff :
    ranTo (atPc [0xF1] { start with sp := 0x23FE, mem := [(0x23FE, 0xFF), (0x23FF, 0x12)] })
      (fun t => t.a == 0x12 && t.pc == 0x0101 && t.sp == 0x2400 && t.flags == flagsOf true true true true true) =
      true := by decide

/-- V134: R205. -/
theorem test_v134_pop_psw_00 :
    ranTo (atPc [0xF1] { start with sp := 0x23FE, flags := flagsOf true false false false true, mem := [(0x23FF, 0x34)] })
      (fun t => t.a == 0x34 && t.pc == 0x0101 && t.sp == 0x2400 && t.flags == flagsOf false false false false false) =
      true := by decide

/-- V135: R205. -/
theorem test_v135_pop_psw_28_only_reserved_bits :
    ranTo (atPc [0xF1] { start with sp := 0x23FE, mem := [(0x23FE, 0x28), (0x23FF, 0x56)] })
      (fun t => t.a == 0x56 && t.pc == 0x0101 && t.sp == 0x2400 && t.flags == flagsOf false false false false false) =
      true := by decide

/-- V138: R211. -/
theorem test_v138_in_0 :
    ranTo (atPc [0xDB, 0x00] start)
      (fun t => t.a == 0x6 && t.pc == 0x0102) = true := by decide

/-- V139: R211. -/
theorem test_v139_in_1 :
    ranTo (atPc [0xDB, 0x01] { start with port1 := 0x15 })
      (fun t => t.a == 0x15 && t.pc == 0x0102) = true := by decide

/-- V140: R211. -/
theorem test_v140_in_2 :
    ranTo (atPc [0xDB, 0x02] { start with shiftOffset := 0x5, port2 := 0x83 })
      (fun t => t.a == 0x83 && t.pc == 0x0102) = true := by decide

/-- V141: R216. -/
theorem test_v141_in_3_offset_0 :
    ranTo (atPc [0xDB, 0x03] { start with shiftData := 0xABCD })
      (fun t => t.a == 0xAB && t.pc == 0x0102) = true := by decide

/-- V142: R216. -/
theorem test_v142_in_3_offset_4 :
    ranTo (atPc [0xDB, 0x03] { start with shiftData := 0xABCD, shiftOffset := 0x4 })
      (fun t => t.a == 0xBC && t.pc == 0x0102) = true := by decide

/-- V143: R216. -/
theorem test_v143_in_3_offset_7 :
    ranTo (atPc [0xDB, 0x03] { start with shiftData := 0xABCD, shiftOffset := 0x7 })
      (fun t => t.a == 0xE6 && t.pc == 0x0102) = true := by decide

/-- V144: R220. -/
theorem test_v144_in_4 :
    ranTo (atPc [0xDB, 0x04] { start with a := 0x99, shiftData := 0xABCD, shiftOffset := 0x3 })
      (fun t => t.a == 0x0 && t.pc == 0x0102) = true := by decide

/-- V145: R220. -/
theorem test_v145_in_ff :
    ranTo (atPc [0xDB, 0xFF] { start with a := 0x99 })
      (fun t => t.a == 0x0 && t.pc == 0x0102) = true := by decide

/-- V146: R217. -/
theorem test_v146_out_2 :
    ranTo (atPc [0xD3, 0x02] { start with a := 0xFD, shiftData := 0x1234 })
      (fun t => t.pc == 0x0102 && t.shiftOffset == 0x5 && t.a == 0xFD) = true := by decide

/-- V147: R218. -/
theorem test_v147_out_4 :
    ranTo (atPc [0xD3, 0x04] { start with a := 0x5A, shiftData := 0x1234, shiftOffset := 0x3 })
      (fun t => t.pc == 0x0102 && t.shiftData == 0x5A12 && t.a == 0x5A) = true := by decide

/-- V148: R220. -/
theorem test_v148_out_3 :
    ranTo (atPc [0xD3, 0x03] { start with a := 0x5A, shiftData := 0x1234, shiftOffset := 0x3 })
      (fun t => t.pc == 0x0102 && t.a == 0x5A) = true := by decide

/-- V149: R220. -/
theorem test_v149_out_0 :
    ranTo (atPc [0xD3, 0x00] { start with a := 0xFF, shiftData := 0x1234, shiftOffset := 0x3 })
      (fun t => t.pc == 0x0102 && t.a == 0xFF) = true := by decide

/-- V150: R230. -/
theorem test_v150_nop :
    ranTo (atPc [0x00] start)
      (fun t => t.pc == 0x0101 && t.flags == flagsOf false false false false false && t.a == 0x0) = true := by decide

/-- V151: R231. -/
theorem test_v151_nop_38 :
    ranTo (atPc [0x38] { start with flags := flagsOf false false false false true })
      (fun t => t.pc == 0x0101 && t.flags == flagsOf false false false false true && t.a == 0x0) = true := by decide

/-- V152: R232. -/
theorem test_v152_hlt :
    ranTo (atPc [0x76] start)
      (fun t => t.pc == 0x0101 && t.halted && t.a == 0x0) = true := by decide

/-- V154: R233. -/
theorem test_v154_ei :
    ranTo (atPc [0xFB] { start with ie := false })
      (fun t => t.pc == 0x0101 && t.ie == true && t.a == 0x0) = true := by decide

/-- V155: R234. -/
theorem test_v155_di :
    ranTo (atPc [0xF3] start)
      (fun t => t.pc == 0x0101 && t.ie == false && t.a == 0x0) = true := by decide

/-- An instruction that lies across the top of memory (R55, 30_encoding.md R92). -/
theorem test_fetch_wraps :
    ranTo { start with pc := 0xFFFF, mem := [(0x0000, 0x34), (0x0001, 0x12), (0xFFFF, 0xC3)] }
      (fun t => t.pc == 0x1234) = true := by decide

/-- `withFetchWord` makes the next step run the word: INR A. -/
theorem test_withFetchWord : ranTo (State.reset.withFetchWord 8 0x3C) (fun t => t.a == 1 && t.pc == 1) =
      true := by decide

/-- V156. -/
theorem test_v156_request :
    ranTo { start with pc := 0x43, script := [.request 1] }
      (fun t => t.pc == 0x0008 && t.sp == 0x23FE && t.byteAt 0x23FE == 0x43 && !t.ie && t.script == []) = true := by
  decide

/-- V157. -/
theorem test_v157_request_dropped :
    ranTo { start with pc := 0x43, ie := false, script := [.request 1] }
      (fun t => t == { start with pc := 0x43, ie := false }) = true := by decide

/-- V160. -/
theorem test_v160_request_while_halted :
    ranTo { start with pc := 0x21, halted := true, script := [.request 2] }
      (fun t => t.pc == 0x0010 && t.byteAt 0x23FE == 0x21 && !t.ie && !t.halted) = true := by decide

/-- V164. -/
theorem test_v164_reset :
    ranTo { start with a := 0x5A, pc := 0x1234, halted := true, ie := false, shiftData := 0xABCD, script := [.resetCpu] }
      (fun t => t == { State.reset with shiftData := 0xABCD }) = true := by decide

/-- V165. -/
theorem test_v165_halted_step :
    ranTo (atPc [0x3C] { start with halted := true }) (fun t => t == atPc [0x3C] { start with halted := true }) =
      true := by decide

/-- 95_test_vectors.md P6: with the frame scheduler at its budget the next turn is request 1. -/
theorem test_frame_request :
    ranTo { start with intSched := .frame, cycleAcc := 16670, pc := 0x0003 }
      (fun t => t.pc == 0x0008 && t.cycleAcc == 0 && t.half == .second && !t.ie) = true := by decide

/-! ### Part 4: what the hypotheses of the obligations admit -/

theorem witness_ResetTouchesTheInterpreterOnly :
    0x2000 ≤ (0x2000 : Word).toNat ∧ 0x2000 ≤ (0xFFFF : Word).toNat := by decide

/-- A launch with a ROM and a RAM0 that are not zero: the last byte of the last image and the first byte of RAM0. -/
theorem witness_launchByte :
    let p : Launch := { romImage := fun k o => k.setWidth 8 + o.setWidth 8, ram0 := fun a => a.setWidth 8 + 7,
                        port1Reset := 0, port2Dip := 0, shiftDataReset := 0, shiftOffsetReset := 0, intSched := .frame }
    launchByte p 0x1FFF = 0x02 ∧ launchByte p 0x2000 = 0x07 ∧ launchByte p 0x0800 = 0x01 := by decide

theorem witness_FieldPatternsSelectTheInstruction :
    ((1 : BitVec 3) ≠ 0 ∧ decode (0b00#2 ++ 1#3 ++ 0b000#3) 0 0 = .nop08) ∧
      ((7 : BitVec 3) ≠ 0 ∧ decode (0b00#2 ++ 7#3 ++ 0b000#3) 0 0 = .nop38) := by decide

theorem witness_AliasBytesBehaveAsTheirTarget :
    ((0x08, 0x00) : Byte × Byte) ∈ ([(0x08, 0x00), (0xFD, 0xCD)] : List (Byte × Byte)) ∧
      opcodeLength 0x08 = opcodeLength 0x00 ∧ opcodeLength 0xFD = opcodeLength 0xCD := by decide

theorem witness_InterpreterStepRunsTheInstructionAtPc :
    ({ start with halted := true } : State).halted = true ∧ start.halted = false ∧
      decodeBytes [start.byteAt start.pc, start.byteAt (start.pc + 1), start.byteAt (start.pc + 2)] =
        .ok (.nop, [0, 0]) := ⟨rfl, rfl, rfl⟩

/-- Under `anyBoundary`, the schedule empty: INR A at 0x0100. -/
theorem witness_StepRunsTheDecodedInstruction_anyBoundary :
    let s := atPc [0x3C] start
    (s.script = [] ∧ ([] : List Turn) = [] ∨ s.script = .machine :: []) ∧ s.halted = false ∧
      (s.intSched = .frame → s.cycleAcc < Config.halfFrameBudget) ∧
      decodeBytes [s.byteAt s.pc, s.byteAt (s.pc + 1), s.byteAt (s.pc + 2)] = .ok (.inrA, [0, 0]) ∧
      ∃ t, exec .inrA { s with pc := s.pc + BitVec.ofNat 16 (encode .inrA).length, script := [] } = .next t :=
  ⟨.inl ⟨rfl, rfl⟩, rfl, fun h => absurd h (by decide), rfl, _, rfl⟩

/-- Under `frame`, one cycle below the budget, a turn of the machine before a host turn: MVI A at 0x0100. -/
theorem witness_StepRunsTheDecodedInstruction_frame :
    let s := atPc [0x3E, 0x42] { start with intSched := .frame, cycleAcc := 16666, script := [.machine, .resetCpu] }
    (s.script = [] ∧ [Turn.resetCpu] = [] ∨ s.script = .machine :: [Turn.resetCpu]) ∧ s.halted = false ∧
      (s.intSched = .frame → s.cycleAcc < Config.halfFrameBudget) ∧
      decodeBytes [s.byteAt s.pc, s.byteAt (s.pc + 1), s.byteAt (s.pc + 2)] = .ok (.mviA 0x42, [0]) ∧
      ∃ t, exec (.mviA 0x42) { s with pc := s.pc + BitVec.ofNat 16 (encode (.mviA 0x42)).length,
                                      script := [Turn.resetCpu] } = .next t :=
  ⟨.inr rfl, rfl, fun _ => by decide, rfl, _, rfl⟩

/-- A register, M and an immediate as operands. -/
theorem witness_AdditionWritesSumAndCarries :
    let s : State := { start with a := 0xFF, b := 0x01, h := 0x20, flags := flagsOf false false false false true,
                                  mem := [(0x2000, 0x7F)] }
    (AluOp.add ∈ [AluOp.add, AluOp.adc] ∧ Instr.addB = Instr.alu .add (.reg .b) ∧ s.src8 (.reg .b) = 0x01) ∧
      (AluOp.adc ∈ [AluOp.add, AluOp.adc] ∧ Instr.adcM = Instr.alu .adc .m ∧ s.src8 .m = 0x7F) ∧
      Instr.aci 0x80 = Instr.aluImm .adc 0x80 := by decide

theorem witness_SubtractionWritesDifferenceAndBorrows :
    let s : State := { start with a := 0x00, b := 0xFF, flags := flagsOf false false false false true }
    (AluOp.sbb ∈ [AluOp.sub, AluOp.sbb] ∧ Instr.sbbB = Instr.alu .sbb (.reg .b) ∧ s.src8 (.reg .b) = 0xFF) ∧
      Instr.sui 0x01 = Instr.aluImm .sub 0x01 := by decide

theorem witness_CompareWritesFlagsOnly :
    Instr.cmpM = Instr.alu .cmp .m ∧ start.src8 .m = 0x00 ∧ (Instr.cpi 0x05 = Instr.cpi 0x05) := by decide

theorem witness_CompareOrdersUnsigned : AluOp.sub ∈ [AluOp.sub, AluOp.cmp] ∧ AluOp.cmp ∈ [AluOp.sub, AluOp.cmp] := by
  decide

theorem witness_LogicForcesTheCarries :
    (AluOp.ana ∈ [AluOp.ana, AluOp.xra, AluOp.ora] ∧ Instr.anaM = Instr.alu .ana .m) ∧
      (AluOp.ora ∈ [AluOp.ana, AluOp.xra, AluOp.ora] ∧ Instr.ori 0x0F = Instr.aluImm .ora 0x0F) := by decide

/-- Neither step (0x99), both steps (0x9A), the low step alone (0x12 with AuxCarry), and the sum past eight bits (0xFA). -/
theorem witness_DaaFollowsTheAlgorithm :
    let eqs := fun (s : State) (low high : Bool) (t1 t2 : Nat) =>
      low = (s.flags.ac || decide (s.a.toNat % 16 > 9)) ∧ t1 = (if low then s.a.toNat + 6 else s.a.toNat) ∧
        high = (s.flags.cy || decide (t1 > 0x99)) ∧ t2 = (if high then t1 + 0x60 else t1)
    eqs { start with a := 0x99 } false false 0x99 0x99 ∧ eqs { start with a := 0x9A } true true 0xA0 0x100 ∧
      eqs { start with a := 0x12, flags := flagsOf false false true false false } true false 0x18 0x18 ∧
      eqs { start with a := 0xFA } true true 0x100 0x160 := by decide

/-- 99 + 99 + 1, by register and by immediate. -/
theorem witness_DaaAdjustsADecimalSum :
    let s : State := { start with a := 0x99, b := 0x99, flags := flagsOf false false false false true }
    AluOp.adc ∈ [AluOp.add, AluOp.adc] ∧ Instr.adcB = Instr.alu .adc (.reg .b) ∧ s.src8 (.reg .b) = 0x99 ∧
      Instr.aci 0x99 = Instr.aluImm .adc 0x99 ∧ s.a.toNat = 16 * 9 + 9 ∧ (0x99 : Byte).toNat = 16 * 9 + 9 := by decide

theorem witness_JumpsSetPc : Instr.jmpCB 0x1234 ∈ Instr.jmpForms (joinBytes 0x12 0x34) := by decide

theorem witness_CallsPushTheReturnAddress :
    Instr.callFD 0x1000 ∈ Instr.callForms (joinBytes 0x10 0x00) ∧ start.flags.holds .nz = true ∧
      start.flags.holds .m = false := by decide

theorem witness_ReturnsPopPc :
    Instr.retD9 ∈ Instr.retForms ∧ start.flags.holds .po = true ∧ start.flags.holds .pe = false := by decide

/-- At the reset stack pointer, where the push wraps. -/
theorem witness_ReturnUndoesACall :
    let s : State := { start with sp := 0x0000 }
    (Instr.call 0x1000 ∈ Instr.callForms 0x1000 ∨ Instr.call 0x1000 = Instr.rst 0) ∧
      (∃ t, exec (.call 0x1000) s = .next t) ∧ (Instr.rst7 ∈ Instr.callForms 0x1000 ∨ Instr.rst7 = Instr.rst 7) ∧
      (∃ t, exec .rst7 s = .next t) ∧ Instr.ret ∈ Instr.retForms :=
  ⟨.inl (by decide), ⟨_, rfl⟩, .inr rfl, ⟨_, rfl⟩, by decide⟩

/-- Every clause of the port mux at the ends of its range: 0, 1, 2, 3, 4, 255. -/
theorem witness_InReadsThePortMux :
    let s : State := { start with port1 := 0x11, port2 := 0x83, shiftData := 0xABCD, shiftOffset := 7 }
    s.portRead 0 = 0x06 ∧ s.portRead 1 = 0x11 ∧ s.portRead 2 = 0x83 ∧ s.portRead 3 = 0xE6 ∧ s.portRead 4 = 0 ∧
      s.portRead 255 = 0 ∧ 4 ≤ (4 : Byte).toNat ∧ ¬ 4 ≤ (3 : Byte).toNat := by decide

/-- OUT to 2, to 4, and to the ports around them. -/
theorem witness_OutWritesThePortMux :
    ((1 : Byte) ≠ 2 ∧ (1 : Byte) ≠ 4) ∧ ((3 : Byte) ≠ 2 ∧ (3 : Byte) ≠ 4) ∧ ((255 : Byte) ≠ 2 ∧ (255 : Byte) ≠ 4) ∧
      ({ start with a := 0xFD } : State).portWrite 3 0xFD = { start with a := 0xFD } ∧
      (start.portWrite 2 0xFD).shiftOffset = 5 ∧ (start.portWrite 4 0x5A).shiftData = 0x5A00 := by decide

theorem witness_SettersDriveTheirMask : 0 < 8 ∧ 7 < 8 := by decide

theorem witness_NopFormsChangeNothing : Instr.nop ∈ Instr.nopForms ∧ Instr.nop38 ∈ Instr.nopForms := by decide

/-- Halted with IE false; no turn, the machine's, a dropped request, an input setter. -/
theorem witness_HltStopsTheInterpreter :
    ∀ script ∈ ([[], [.machine], [.request 7], [.setInput .coin true]] : List (List Turn)),
      let s : State := { start with halted := true, ie := false, script := script }
      s.halted = true ∧ s.ie = false ∧ s.script.head? ≠ some .resetCpu ∧ ∃ t, step s = .next t := by
  intro script h
  simp only [List.mem_cons, List.not_mem_nil, or_false] at h
  rcases h with rfl | rfl | rfl | rfl <;> exact ⟨rfl, rfl, by decide, _, rfl⟩

theorem witness_InterruptRequestEntersItsVector :
    ({ start with ie := false } : State).ie = false ∧ start.ie = true ∧ (start.requestInterrupt 7).pc = 0x38 := by decide

theorem witness_RetResumesTheInterruptedProgram : State.reset.ie = true ∧ (State.reset.requestInterrupt 1).sp = 0xFFFE := by
  decide

/-- At the budget in both halves, and one cycle below it. -/
theorem witness_FrameSchedulerRequestsAtTheBudget :
    let s : State := { start with intSched := .frame, cycleAcc := 16667 }
    let u : State := { s with half := .second }
    let v : State := { s with cycleAcc := 16666 }
    (s.intSched = .frame ∧ s.script = [] ∧ 16667 ≤ s.cycleAcc ∧ s.half = .first) ∧
      (u.intSched = .frame ∧ u.script = [] ∧ 16667 ≤ u.cycleAcc ∧ u.half = .second) ∧
      (v.intSched = .frame ∧ v.script = [] ∧ v.cycleAcc < 16667) := by decide

theorem witness_HaltUnderTheFrameSchedulerIsForever :
    let s : State := { start with intSched := .frame, halted := true, cycleAcc := 16666 }
    s.intSched = .frame ∧ s.script = [] ∧ s.halted = true ∧ s.cycleAcc < 16667 ∧ s.ie = true := by decide

/-- There is a table that meets the constraints: the lowest costs. -/
theorem witness_CycleTableIsAnyAllowedTable : CycleTableOk (cycleTable (fun _ => 0) (fun _ => 0)) where
  bounds := by decide
  nop := by decide
  call := by decide
  inrM := by decide
  movFrom dst x y := by cases dst <;> cases x <;> cases y <;> decide
  movTo src x y := by cases src <;> cases x <;> cases y <;> decide
  alu op r := by cases op <;> cases r <;> decide
  nopAlias := by decide
  jmpAlias := by decide
  retAlias := by decide
  callAlias := by decide

/-- A state under `frame` at the bound of the accumulator, with memory listed and a schedule, meets the invariant and
steps. -/
theorem witness_StepKeepsTheInvariant :
    let s : State := { start with intSched := .frame, cycleAcc := 16684, half := .second, mem := [(0x0100, 0x34)],
                                  script := [.setInput .fire true, .machine] }
    s.Inv ∧ ∃ t, step s = .next t :=
  ⟨⟨by decide, by decide, by decide, by intro _ v; simp⟩, _, rfl⟩

theorem witness_ResetAndLaunchMeetTheInvariant :
    IntSched.frame = .frame → ∀ v, Turn.request v ∉ [Turn.machine, .setInput .coin true, .resetCpu] := by
  intro _ v
  simp

/-- INR A is none of HLT, EI, DI; and the step of HLT turns `halted` on. -/
theorem witness_OnlyHltHaltsOnlyEiDiEnable :
    (Instr.inrA ≠ .hlt ∧ Instr.inrA ≠ .ei ∧ Instr.inrA ≠ .di ∧ ∃ t, exec .inrA start = .next t) ∧
      ∃ t, step (atPc [0x76] start) = .next t ∧ (atPc [0x76] start).halted = false ∧ t.halted = true :=
  ⟨⟨by decide, by decide, by decide, _, rfl⟩, _, rfl, rfl, rfl⟩

theorem witness_DevicesChangeOnlyByOut :
    Instr.outPort 2 ≠ .outPort 4 ∧ (∃ t, exec (.outPort 2) start = .next t) ∧ Instr.outPort 4 ≠ .outPort 2 ∧
      ∃ t, exec (.outPort 4) start = .next t :=
  ⟨by decide, ⟨_, rfl⟩, by decide, _, rfl⟩

theorem witness_AuxCarryIsReadOnlyByDaaAndPushPsw :
    Instr.popPsw ≠ .daa ∧ Instr.popPsw ≠ .pushPsw ∧ (∃ t, exec .popPsw start = .next t) ∧ Instr.adcM ≠ .daa ∧
      Instr.adcM ≠ .pushPsw ∧ ∃ t, exec .adcM start = .next t :=
  ⟨by decide, by decide, ⟨_, rfl⟩, by decide, by decide, _, rfl⟩

end Sys2Proof.Tests
end

section
/-! PROOFS. Memory as a flat array of bytes, with words in it little-endian (20_memory.md). -/

namespace Sys2Proof.Machine

/-- The two cells of a word are distinct, also where the second one wraps to address 0 (R53). -/
theorem ne_nextAddress (k : Word) : k ≠ k + 1 := by bv_omega

/-- The cells of a word store with the low byte's asked for first: the order does not matter, the cells are distinct. -/
theorem State.storeWord_byteAt_lowFirst (s : State) (k w x : Word) :
    (s.storeWord k w).byteAt x = if x = k then loByte w else if x = k + 1 then hiByte w else s.byteAt x := by
  rw [State.storeWord_byteAt]
  by_cases hx : x = k
  · subst hx
    rw [if_neg (ne_nextAddress x)]
    simp only [if_true]
  · simp only [if_neg hx]

/-- A word read is little-endian (R50, R53). -/
theorem State.toNat_wordAt (s : State) (k : Word) :
    (s.wordAt k).toNat = (s.byteAt (k + 1)).toNat * 256 + (s.byteAt k).toNat :=
  toNat_joinBytes _ _

/-- Settles O9: a byte store and a word store by their laws, a word read by the law of joining two bytes, which at
0xFFFF takes its high byte from the wrapped address 0. -/
theorem memoryIsAFlatLittleEndianArray : Obligations.MemoryIsAFlatLittleEndianArray := by
  intro s
  refine ⟨s.storeByte_byteAt, fun k w x => ?storeWord, s.toNat_wordAt, ?topOfMemory⟩
  case storeWord => rw [s.storeWord_byteAt_lowFirst, loByte_eq_setWidth, hiByte_eq_setWidth]
  case topOfMemory =>
    have wraps : (0xFFFF : Word) + 1 = 0 := by decide
    rw [s.toNat_wordAt, wraps]

end Sys2Proof.Machine
end

section
/-! PROOFS. The decoder read by the bit patterns of the opcode map (30_encoding.md R88): one lemma per pattern with a
field, by the values of the field. -/

namespace Sys2Proof.Machine

theorem decode_lxi (p : Pair) (b1 b2 : Byte) :
    decode (0b00#2 ++ p.code ++ 0b0001#4) b1 b2 = Instr.lxi p (joinBytes b2 b1) := by
  rcases p with (_ | _ | _) | _ <;> rfl

theorem decode_inx (p : Pair) (b1 b2 : Byte) : decode (0b00#2 ++ p.code ++ 0b0011#4) b1 b2 = Instr.inx p := by
  rcases p with (_ | _ | _) | _ <;> rfl

theorem decode_dcx (p : Pair) (b1 b2 : Byte) : decode (0b00#2 ++ p.code ++ 0b1011#4) b1 b2 = Instr.dcx p := by
  rcases p with (_ | _ | _) | _ <;> rfl

theorem decode_dad (p : Pair) (b1 b2 : Byte) : decode (0b00#2 ++ p.code ++ 0b1001#4) b1 b2 = Instr.dad p := by
  rcases p with (_ | _ | _) | _ <;> rfl

theorem decode_inrR (r : Reg) (b1 b2 : Byte) : decode (0b00#2 ++ r.code ++ 0b100#3) b1 b2 = Instr.inrR r := by
  cases r <;> rfl

theorem decode_dcrR (r : Reg) (b1 b2 : Byte) : decode (0b00#2 ++ r.code ++ 0b101#3) b1 b2 = Instr.dcrR r := by
  cases r <;> rfl

theorem decode_mviR (r : Reg) (b1 b2 : Byte) : decode (0b00#2 ++ r.code ++ 0b110#3) b1 b2 = Instr.mviR r b1 := by
  cases r <;> rfl

theorem decode_movRR (dst src : Reg) (b1 b2 : Byte) :
    decode (0b01#2 ++ dst.code ++ src.code) b1 b2 = Instr.movRR dst src := by
  cases dst <;> cases src <;> rfl

theorem decode_movRM (dst : Reg) (b1 b2 : Byte) : decode (0b01#2 ++ dst.code ++ 0b110#3) b1 b2 = Instr.movRM dst := by
  cases dst <;> rfl

theorem decode_movMR (src : Reg) (b1 b2 : Byte) : decode (0b01110#5 ++ src.code) b1 b2 = Instr.movMR src := by
  cases src <;> rfl

theorem decode_alu (op : AluOp) (o : Operand) (b1 b2 : Byte) :
    decode (0b10#2 ++ op.code ++ o.code) b1 b2 = Instr.alu op o := by
  cases op <;> rcases o with (_ | _ | _ | _ | _ | _ | _) | _ <;> rfl

theorem decode_aluImm (op : AluOp) (b1 b2 : Byte) :
    decode (0b11#2 ++ op.code ++ 0b110#3) b1 b2 = Instr.aluImm op b1 := by
  cases op <;> rfl

theorem decode_rcc (k : Cond) (b1 b2 : Byte) : decode (0b11#2 ++ k.code ++ 0b000#3) b1 b2 = Instr.rcc k := by
  cases k <;> rfl

theorem decode_jcc (k : Cond) (b1 b2 : Byte) :
    decode (0b11#2 ++ k.code ++ 0b010#3) b1 b2 = Instr.jcc k (joinBytes b2 b1) := by
  cases k <;> rfl

theorem decode_ccc (k : Cond) (b1 b2 : Byte) :
    decode (0b11#2 ++ k.code ++ 0b100#3) b1 b2 = Instr.ccc k (joinBytes b2 b1) := by
  cases k <;> rfl

theorem decode_pop (p : RegPair) (b1 b2 : Byte) : decode (0b11#2 ++ p.code ++ 0b0001#4) b1 b2 = Instr.pop p := by
  cases p <;> rfl

theorem decode_push (p : RegPair) (b1 b2 : Byte) : decode (0b11#2 ++ p.code ++ 0b0101#4) b1 b2 = Instr.push p := by
  cases p <;> rfl

theorem decode_rst (n : BitVec 3) (b1 b2 : Byte) : decode (0b11#2 ++ n ++ 0b111#3) b1 b2 = Instr.rst n := by
  rcases restart_cases n with rfl | rfl | rfl | rfl | rfl | rfl | rfl | rfl <;> rfl

/-- NOP and its aliases are the eight values of one pattern: NOP is the value 0. -/
theorem decode_mem_nopForms (x : BitVec 3) (b1 b2 : Byte) :
    decode (0b00#2 ++ x ++ 0b000#3) b1 b2 ∈ Instr.nopForms := by
  have value : Instr.nopForms[x.toNat]? = some (decode (0b00#2 ++ x ++ 0b000#3) b1 b2) := by
    rcases restart_cases x with rfl | rfl | rfl | rfl | rfl | rfl | rfl | rfl <;> rfl
  exact List.mem_of_getElem? value

/-- Settles O6: a pattern with a field by its lemma above, a pattern without one by evaluating the decoder. -/
theorem fieldPatternsSelectTheInstruction : Obligations.FieldPatternsSelectTheInstruction := by
  intro b1 b2
  exact ⟨rfl, fun x _ => decode_mem_nopForms x b1 b2, fun p => decode_lxi p b1 b2,
    rfl, rfl, rfl, rfl, fun p => decode_inx p b1 b2,
    fun r => decode_inrR r b1 b2, rfl, fun r => decode_dcrR r b1 b2, rfl, fun r => decode_mviR r b1 b2, rfl,
    rfl, rfl, rfl, rfl, rfl, rfl, rfl, rfl, fun p => decode_dad p b1 b2,
    rfl, rfl, rfl, rfl, fun p => decode_dcx p b1 b2,
    fun dst src => decode_movRR dst src b1 b2, fun dst => decode_movRM dst b1 b2, fun src => decode_movMR src b1 b2,
    rfl, fun op o => decode_alu op o b1 b2,
    fun k => decode_rcc k b1 b2, fun p => decode_pop p b1 b2, rfl,
    fun k => decode_jcc k b1 b2, rfl, rfl, rfl, rfl, rfl, rfl, rfl, rfl,
    fun k => decode_ccc k b1 b2, fun p => decode_push p b1 b2, rfl,
    fun op => decode_aluImm op b1 b2, fun n => decode_rst n b1 b2,
    rfl, rfl, rfl, rfl, rfl, rfl, rfl, rfl⟩

end Sys2Proof.Machine
end

section
/-! PROOFS. The length of an instruction is a function of its opcode byte (30_encoding.md R81). -/

namespace Sys2Proof.Machine

theorem length_encode (i : Instr) : (encode i).length = opcodeLength i.opcode := by cases i <;> rfl

/-- The decoder keeps the opcode byte, whatever the bytes after it. -/
theorem opcode_decode (op b1 b2 : Byte) : (decode op b1 b2).opcode = op := by
  obtain ⟨n, hn, rfl⟩ : ∃ n < 256, op = BitVec.ofNat 8 n := ⟨op.toNat, op.isLt, by simp⟩
  interval_cases n <;> rfl

theorem length_encode_decode (op b1 b2 : Byte) : (encode (decode op b1 b2)).length = opcodeLength op := by
  rw [length_encode, opcode_decode]

theorem opcodeLength_eq_three_iff (op : Byte) : opcodeLength op = 3 ↔ op ∈ threeByteOpcodes := by
  unfold opcodeLength
  split_ifs with three two <;> simp [three]

theorem opcodeLength_eq_two_iff (op : Byte) : opcodeLength op = 2 ↔ op ∈ twoByteOpcodes := by
  have disjoint : threeByteOpcodes.all (· ∉ twoByteOpcodes) = true := by decide
  unfold opcodeLength
  split_ifs with three two
  · simp [of_decide_eq_true (List.all_eq_true.mp disjoint op three)]
  · simp [two]
  · simp [two]

/-- A list of bytes may be read as the list of their numbers. -/
theorem mem_iff_toNat_mem (op : Byte) (ops : List Byte) : op ∈ ops ↔ op.toNat ∈ ops.map BitVec.toNat :=
  (List.mem_map_of_injective fun _ _ => BitVec.eq_of_toNat_eq).symm

/-- PC stands past every byte of the instruction at PC when its effect is computed (R81). -/
theorem State.pastInstr_pc_eq_add_length (s : State) :
    s.pastInstr.pc = s.pc + BitVec.ofNat 16 (encode s.fetched).length := by
  rw [State.fetched, length_encode_decode]
  rfl

/-- Settles O7: the two lists by membership in the model's own lists, the three counts by evaluating the
length of each of the 256 opcode bytes. -/
theorem lengthIsThatOfTheOpcode : Obligations.LengthIsThatOfTheOpcode :=
  ⟨length_encode,
    fun op => (opcodeLength_eq_three_iff op).trans (mem_iff_toNat_mem op _),
    fun op => (opcodeLength_eq_two_iff op).trans (mem_iff_toNat_mem op _),
    by decide +kernel, by decide +kernel, by decide +kernel, State.pastInstr_pc_eq_add_length⟩

end Sys2Proof.Machine
end

section
/-! PROOFS. The aliases and the bytes they copy (30_encoding.md R89): `aliasTarget`, by which the cycle table is built,
keeps the effect as well. -/

namespace Sys2Proof.Machine

/-- The aliases of NOP are values of NOP's pattern. -/
theorem exec_nopAlias {op : Byte} (h : op ∈ ([0x08, 0x10, 0x18, 0x20, 0x28, 0x30, 0x38] : List Byte)) (b1 b2 : Byte)
    (s : State) : exec (decode op b1 b2) s = .next s := by
  have values : ([0x08, 0x10, 0x18, 0x20, 0x28, 0x30, 0x38] : List Byte) =
      ([1, 2, 3, 4, 5, 6, 7] : List (BitVec 3)).map (fun x => 0b00#2 ++ x ++ 0b000#3) := rfl
  rw [values] at h
  obtain ⟨x, -, rfl⟩ := List.mem_map.mp h
  exact exec_nopForms _ (decode_mem_nopForms x b1 b2) s

/-- The aliases of CALL push the return address and jump, as CALL does. -/
theorem exec_callAlias {op : Byte} (h : op ∈ ([0xDD, 0xED, 0xFD] : List Byte)) (b1 b2 : Byte) (s : State) :
    exec (decode op b1 b2) s = .next (s.call (joinBytes b2 b1)) := by
  simp only [List.mem_cons, List.not_mem_nil, or_false] at h
  rcases h with rfl | rfl | rfl
  · exact exec_callForms _ (.callDD _) (by simp [Instr.callForms]) s
  · exact exec_callForms _ (.callED _) (by simp [Instr.callForms]) s
  · exact exec_callForms _ (.callFD _) (by simp [Instr.callForms]) s

/-- Executing a byte answers what executing the byte it copies answers: both are forms of one instruction. -/
theorem exec_decode_aliasTarget (op b1 b2 : Byte) (s : State) :
    exec (decode (aliasTarget op) b1 b2) s = exec (decode op b1 b2) s := by
  unfold aliasTarget
  split_ifs with nop jmp ret call
  · rw [exec_nopAlias nop]
    exact exec_nopForms .nop (by decide) s
  · subst jmp
    have forms := exec_jmpForms (joinBytes b2 b1)
    exact (forms (.jmp _) (by simp [Instr.jmpForms]) s).trans (forms (.jmpCB _) (by simp [Instr.jmpForms]) s).symm
  · subst ret
    exact (exec_retForms .ret (by decide) s).trans (exec_retForms .retD9 (by decide) s).symm
  · rw [exec_callAlias call]
    exact exec_callForms _ (.call _) (by simp [Instr.callForms]) s
  · rfl

/-- The twelve aliases, each with the byte it copies, as R89 lists them. -/
def aliasPairs : List (Byte × Byte) :=
  [(0x08, 0x00), (0x10, 0x00), (0x18, 0x00), (0x20, 0x00), (0x28, 0x00), (0x30, 0x00), (0x38, 0x00),
    (0xCB, 0xC3), (0xD9, 0xC9), (0xDD, 0xCD), (0xED, 0xCD), (0xFD, 0xCD)]

/-- The list agrees with the cycle table's `aliasTarget`, and no target is itself one of the aliases. -/
theorem aliasTarget_of_mem {op target : Byte} (h : (op, target) ∈ aliasPairs) :
    aliasTarget op = target ∧ aliasTarget target = target := by
  have listed : aliasPairs.all (fun pair => aliasTarget pair.1 = pair.2 ∧ aliasTarget pair.2 = pair.2) = true := by
    decide
  exact of_decide_eq_true (List.all_eq_true.mp listed _ h)

theorem opcodeLength_eq_of_mem_aliasPairs {op target : Byte} (h : (op, target) ∈ aliasPairs) :
    opcodeLength op = opcodeLength target := by
  have listed : aliasPairs.all (fun pair => opcodeLength pair.1 = opcodeLength pair.2) = true := by decide
  exact of_decide_eq_true (List.all_eq_true.mp listed _ h)

/-- Settles O8: a listed byte does what its target does, and the cycle table looks both up under that target. -/
theorem aliasBytesBehaveAsTheirTarget : Obligations.AliasBytesBehaveAsTheirTarget := by
  intro op target h
  obtain ⟨copies, targetIsNoAlias⟩ := aliasTarget_of_mem h
  refine ⟨fun b1 b2 s => ?effect, opcodeLength_eq_of_mem_aliasPairs h, ?cost⟩
  case effect => rw [← copies, exec_decode_aliasTarget]
  case cost => simp only [cyclesOf, cycleTable, copies, targetIsNoAlias]

end Sys2Proof.Machine
end

section
/-! PROOFS. The data transfers (40_data_transfer.md). Each writes one register, one byte, one pair, one word or SP:
what such a write leaves is said once, and an instruction's statement is its encoding and the write `exec` answers. -/

namespace Sys2Proof.Machine

/-! ### Encodings by field (R103 to R108) -/

theorem encode_movRR (dst src : Reg) : encode (Instr.movRR dst src) = [0b01#2 ++ dst.code ++ src.code] := by
  cases dst <;> cases src <;> rfl

theorem encode_movRM (dst : Reg) : encode (Instr.movRM dst) = [0b01#2 ++ dst.code ++ 0b110#3] := by
  cases dst <;> rfl

theorem encode_movMR (src : Reg) : encode (Instr.movMR src) = [0b01110#5 ++ src.code] := by
  cases src <;> rfl

theorem encode_mviR (r : Reg) (v : Byte) : encode (Instr.mviR r v) = [0b00#2 ++ r.code ++ 0b110#3, v] := by
  cases r <;> rfl

theorem encode_lxi (p : Pair) (w : Word) :
    encode (Instr.lxi p w) = [0b00#2 ++ p.code ++ 0b0001#4, loByte w, hiByte w] := by
  rcases p with (_ | _ | _) | _ <;> rfl

/-- A word operand follows its opcode low byte first (R108). -/
theorem encode_lxi_joinBytes (p : Pair) (low high : Byte) :
    encode (Instr.lxi p (joinBytes high low)) = [0b00#2 ++ p.code ++ 0b0001#4, low, high] := by
  rw [encode_lxi, loByte_joinBytes, hiByte_joinBytes]

/-- The operand bytes of a word, as a shift and two truncations. -/
theorem wordOperand_eq_setWidth (op : Byte) (w : Word) :
    [op, loByte w, hiByte w] = [op, w.setWidth 8, (w >>> 8).setWidth 8] := by
  rw [loByte_eq_setWidth, hiByte_eq_setWidth]

/-! ### What `exec` answers for the instructions outside a family -/

theorem exec_mviM (v : Byte) (s : State) : exec (.mviM v) s = .next (s.storeByte (joinBytes s.h s.l) v) := rfl

theorem exec_lda (k : Word) (s : State) : exec (.lda k) s = .next (s.setReg .a (s.byteAt k)) := rfl

theorem exec_sta (k : Word) (s : State) : exec (.sta k) s = .next (s.storeByte k s.a) := rfl

theorem exec_lhld (k : Word) (s : State) :
    exec (.lhld k) s = .next (s.setRp .hl (joinBytes (s.byteAt (k + 1)) (s.byteAt k))) := rfl

theorem exec_shld (k : Word) (s : State) : exec (.shld k) s = .next (s.storeWord k (joinBytes s.h s.l)) := rfl

theorem exec_ldaxB (s : State) : exec .ldaxB s = .next (s.setReg .a (s.byteAt (joinBytes s.b s.c))) := rfl

theorem exec_ldaxD (s : State) : exec .ldaxD s = .next (s.setReg .a (s.byteAt (joinBytes s.d s.e))) := rfl

theorem exec_staxB (s : State) : exec .staxB s = .next (s.storeByte (joinBytes s.b s.c) s.a) := rfl

theorem exec_staxD (s : State) : exec .staxD s = .next (s.storeByte (joinBytes s.d s.e) s.a) := rfl

/-- XCHG is two pair writes of the old pairs (R115). -/
theorem exec_xchg (s : State) : exec .xchg s = .next ((s.setRp .hl (s.rp .de)).setRp .de (s.rp .hl)) := by
  have exchanged : exec .xchg s = .next { s with d := s.h, e := s.l, h := s.d, l := s.e } := rfl
  simp [exchanged, State.setRp, State.rp, State.reg, State.setReg, RegPair.high, RegPair.low]

/-- XTHL is a word store of the old HL and a pair write of the old top of the stack (R116). -/
theorem exec_xthl (s : State) :
    exec .xthl s = .next ((s.storeWord s.sp (joinBytes s.h s.l)).setRp .hl
      (joinBytes (s.byteAt (s.sp + 1)) (s.byteAt s.sp))) := rfl

theorem exec_sphl (s : State) : exec .sphl s = .next (s.setPair .sp (joinBytes s.h s.l)) := rfl

/-! ### What one write leaves: the value written, and all else as before -/

theorem highRegister_ne_low (p : RegPair) : p.high ≠ p.low := by cases p <;> decide

section
variable {i : Instr} {s : State}

theorem exec_writes_reg {r : Reg} {v : Byte} (h : exec i s = .next (s.setReg r v)) :
    ∃ t, exec i s = .next t ∧ t.reg r = v ∧ Frame { regs := [r] } s t :=
  ⟨_, h, by simp, frame_setReg s r v⟩

theorem exec_writes_byte {k : Word} {v : Byte} (h : exec i s = .next (s.storeByte k v)) :
    ∃ t, exec i s = .next t ∧ t.byteAt k = v ∧ Frame { bytes := [k] } s t :=
  ⟨_, h, by simp, frame_storeByte s k v⟩

theorem exec_writes_sp {w : Word} (h : exec i s = .next (s.setPair .sp w)) :
    ∃ t, exec i s = .next t ∧ t.sp = w ∧ Frame { sp := true } s t :=
  ⟨_, h, rfl, frame_setPair s .sp w⟩

theorem exec_writes_pair {p : RegPair} {high low : Byte} (h : exec i s = .next (s.setRp p (joinBytes high low))) :
    ∃ t, exec i s = .next t ∧ t.reg p.low = low ∧ t.reg p.high = high ∧ Frame { regs := [p.high, p.low] } s t :=
  ⟨_, h, by simp, by simp [highRegister_ne_low], frame_setRp s p _⟩

theorem exec_writes_word {k : Word} {high low : Byte} (h : exec i s = .next (s.storeWord k (joinBytes high low))) :
    ∃ t, exec i s = .next t ∧ t.byteAt k = low ∧ t.byteAt (k + 1) = high ∧ Frame { bytes := [k, k + 1] } s t :=
  ⟨_, h, by simp, by simp, frame_storeWord s k _⟩

end

/-! ### The exchanges -/

/-- Two pair writes change the two pairs. -/
theorem frame_setRp_setRp (s : State) (p q : RegPair) (v w : Word) :
    Frame { regs := [q.high, q.low, p.high, p.low] } s ((s.setRp p v).setRp q w) :=
  Frame.trans ((frame_setRp s p v).mono (by simp) (by simp) id id id id id id id)
    ((frame_setRp _ q w).mono (by simp) (by simp) id id id id id id id)

/-- A word store and a pair write change the two bytes and the pair. -/
theorem frame_storeWord_setRp (s : State) (k v : Word) (p : RegPair) (w : Word) :
    Frame { regs := [p.high, p.low], bytes := [k, k + 1] } s ((s.storeWord k v).setRp p w) :=
  Frame.trans ((frame_storeWord s k v).mono (by simp) (by simp) id id id id id id id)
    ((frame_setRp _ p w).mono (by simp) (by simp) id id id id id id id)

/-! ### The obligations -/

/-- Settles O13: a register write of the source's value. -/
theorem movBetweenRegisters : Obligations.MovBetweenRegisters :=
  fun dst src s => ⟨encode_movRR dst src, exec_writes_reg (exec_movRR dst src s)⟩

/-- Settles O14: a register write and a byte store, both at the old HL. -/
theorem movThroughHl : Obligations.MovThroughHl :=
  fun r s => ⟨⟨encode_movRM r, exec_writes_reg (exec_movRM r s)⟩, encode_movMR r, exec_writes_byte (exec_movMR r s)⟩

/-- Settles O15: a register write and a byte store of the operand. -/
theorem mviLoadsTheImmediate : Obligations.MviLoadsTheImmediate :=
  fun v s => ⟨fun r => ⟨encode_mviR r v, exec_writes_reg (exec_mviR r v s)⟩, rfl, exec_writes_byte (exec_mviM v s)⟩

/-- Settles O16: a pair write, or for the fourth pair code a write of SP. -/
theorem lxiLoadsThePair : Obligations.LxiLoadsThePair := by
  intro low high s
  refine ⟨fun p => ⟨encode_lxi_joinBytes (.rp p) low high, exec_writes_pair (exec_lxi (.rp p) _ s)⟩, ?stackPointer⟩
  case stackPointer => exact ⟨encode_lxi_joinBytes .sp low high, exec_writes_sp (exec_lxi .sp _ s)⟩

/-- Settles O17: A by a register write and a byte store, HL by a pair write and a word store, whose two
cells differ also where the second one wraps. -/
theorem directLoadsAndStores : Obligations.DirectLoadsAndStores :=
  fun k s => ⟨⟨wordOperand_eq_setWidth 0x3A k, exec_writes_reg (exec_lda k s)⟩,
    ⟨wordOperand_eq_setWidth 0x32 k, exec_writes_byte (exec_sta k s)⟩,
    ⟨wordOperand_eq_setWidth 0x2A k, exec_writes_pair (exec_lhld k s)⟩,
    wordOperand_eq_setWidth 0x22 k, exec_writes_word (exec_shld k s)⟩

/-- Settles O18: a register write of the byte, or a byte store of A, at the pair's address. -/
theorem indirectLoadsAndStores : Obligations.IndirectLoadsAndStores :=
  fun s => ⟨rfl, rfl, rfl, rfl, exec_writes_reg (exec_ldaxB s), exec_writes_reg (exec_ldaxD s),
    exec_writes_byte (exec_staxB s), exec_writes_byte (exec_staxD s)⟩

/-- Settles O19: the exchanges as two writes each, of values read before either. -/
theorem exchangesAndSphl : Obligations.ExchangesAndSphl := by
  intro s
  refine ⟨rfl, rfl, rfl, ?xchg, ?xthl, exec_writes_sp (exec_sphl s)⟩
  case xchg =>
    exact ⟨_, exec_xchg s, hiByte_joinBytes s.d s.e, hiByte_joinBytes s.h s.l, loByte_joinBytes s.d s.e,
      loByte_joinBytes s.h s.l, frame_setRp_setRp s .hl .de _ _⟩
  case xthl =>
    exact ⟨_, exec_xthl s, loByte_joinBytes _ _, hiByte_joinBytes _ _, by simp, by simp,
      frame_storeWord_setRp s s.sp _ .hl _⟩

end Sys2Proof.Machine
end

section
/-! PROOFS. Eight-bit arithmetic, logic and compare (41_alu8.md). Every form is one `accumulate` of its operand: what that
leaves in A and in the flags is said once for the additions, the subtractions and the logical operations. -/

namespace Sys2Proof.Machine

/-! ### The arithmetic cores (R121, R122) -/

theorem toNat_add8 (x y : Byte) (cin : Bool) : (add8 x y cin).toNat = (x.toNat + y.toNat + cin.toNat) % 256 :=
  BitVec.toNat_ofNat _ 8

theorem toNat_sub8 (x y : Byte) (bin : Bool) :
    ((sub8 x y bin).toNat : Int) = ((x.toNat : Int) - y.toNat - bin.toNat) % 256 := by
  rw [sub8, BitVec.toNat_ofInt, Int.toNat_of_nonneg (Int.emod_nonneg _ (by decide))]
  rfl

/-- Without a borrow in, `Sub8` is the machine word's own subtraction. -/
theorem sub8_false (x y : Byte) : sub8 x y false = x - y := by
  have difference := toNat_sub8 x y false
  simp only [Bool.toNat_false] at difference
  bv_omega

/-- The flags of a subtraction at the spec's sense of AuxCarry: the carry out of bit 3 of the complement addition. -/
theorem subFlags_eq (x y : Byte) (bin : Bool) :
    subFlags x y bin = szpFlags (sub8 x y bin)
      (decide (x.toNat % 16 + (255 - y.toNat) % 16 + (1 - bin.toNat) > 15))
      (decide (x.toNat < y.toNat + bin.toNat)) := rfl

/-- The carry out of bit 3 of the complement addition says that bit 3 borrows nothing: the low digit of `255 - y` is
15 less that of `y`. -/
theorem subFlags_ac (x y : Byte) (bin : Bool) :
    (subFlags x y bin).ac = !decide (x.toNat % 16 < y.toNat % 16 + bin.toNat) := by
  have byte := y.isLt
  have bit := bin.toNat_le
  have digit : (255 - y.toNat) % 16 = 15 - y.toNat % 16 := by omega
  rw [← decide_not, subFlags_eq]
  refine decide_eq_decide.mpr ?_
  omega

/-! ### What the forms of an operation share (R126) -/

theorem encode_alu (op : AluOp) (o : Operand) : encode (Instr.alu op o) = [0b10#2 ++ op.code ++ o.code] := by
  cases op <;> rcases o with (_ | _ | _ | _ | _ | _ | _) | _ <;> rfl

/-- `i` is a form of `op` whose operand in `s` is `v`: a register, the byte at HL, or an immediate. -/
theorem exec_aluForm {s : State} {op : AluOp} {i : Instr} {v : Byte}
    (form : (∃ o : Operand, i = Instr.alu op o ∧ v = s.src8 o) ∨ i = Instr.aluImm op v) :
    exec i s = .next (s.accumulate op v) := by
  rcases form with ⟨o, rfl, rfl⟩ | rfl
  · exact exec_alu op o s
  · exact exec_aluImm op v s

/-- Every operation but the compare writes A and the flags. -/
theorem frame_accumulate_of_ne_cmp {op : AluOp} (h : op ≠ .cmp) (s : State) (v : Byte) :
    Frame { regs := [.a], flags := true } s (s.accumulate op v) := by
  simpa only [if_neg h] using frame_accumulate s op v

/-! ### What each kind of operation leaves in A and the flags -/

/-- ADD and ADC are `Add8`, with the old Carry as carry-in of ADC only. -/
theorem accumulate_addition {op : AluOp} (h : op ∈ [AluOp.add, AluOp.adc]) (s : State) (v : Byte) :
    ∃ cin : Bool, cin.toNat = (if op = .adc then s.flags.cy.toNat else 0) ∧
      (s.accumulate op v).a = add8 s.a v cin ∧ (s.accumulate op v).flags = addFlags s.a v cin := by
  simp only [List.mem_cons, List.not_mem_nil, or_false] at h
  rcases h with rfl | rfl
  · exact ⟨false, rfl, rfl, rfl⟩
  · exact ⟨s.flags.cy, rfl, rfl, rfl⟩

/-- SUB and SBB are `Sub8`, with the old Carry as borrow-in of SBB only. -/
theorem accumulate_subtraction {op : AluOp} (h : op ∈ [AluOp.sub, AluOp.sbb]) (s : State) (v : Byte) :
    ∃ bin : Bool, bin.toNat = (if op = .sbb then s.flags.cy.toNat else 0) ∧
      (s.accumulate op v).a = sub8 s.a v bin ∧ (s.accumulate op v).flags = subFlags s.a v bin := by
  simp only [List.mem_cons, List.not_mem_nil, or_false] at h
  rcases h with rfl | rfl
  · exact ⟨false, rfl, rfl, rfl⟩
  · exact ⟨s.flags.cy, rfl, rfl, rfl⟩

theorem accumulate_logic {op : AluOp} (h : op ∈ [AluOp.ana, AluOp.xra, AluOp.ora]) (s : State) (v : Byte) :
    (s.accumulate op v).a = (if op = .ana then s.a &&& v else if op = .xra then s.a ^^^ v else s.a ||| v) ∧
      (s.accumulate op v).flags = szpFlags (s.accumulate op v).a (decide (op = .ana)) false := by
  simp only [List.mem_cons, List.not_mem_nil, or_false] at h
  rcases h with rfl | rfl | rfl <;> exact ⟨rfl, rfl⟩

theorem accumulate_cmp_flags (s : State) (v : Byte) :
    (s.accumulate .cmp v).flags = szpFlags (s.a - v) (decide (s.a.toNat % 16 + (255 - v.toNat) % 16 + 1 > 15))
      (decide (s.a.toNat < v.toNat)) := by
  rw [← sub8_false]
  rfl

/-! ### The obligations -/

/-- Settles O21: A and the flags are those of `Add8`, whose result and carries are read off the exact sum. -/
theorem additionWritesSumAndCarries : Obligations.AdditionWritesSumAndCarries := by
  refine ⟨fun s r => ⟨rfl, rfl⟩, fun o => ⟨encode_alu .add o, encode_alu .adc o⟩, fun v => ⟨rfl, rfl⟩, ?effect⟩
  intro s op hop i v form
  obtain ⟨cin, carryIn, ha, hflags⟩ := accumulate_addition hop s v
  have notCompare : op ≠ .cmp := ne_of_mem_of_not_mem hop (by decide)
  refine ⟨_, exec_aluForm form, ?sum, ?flags, frame_accumulate_of_ne_cmp notCompare s v⟩
  case sum => rw [ha, toNat_add8, carryIn]
  case flags => rw [hflags, ha, ← carryIn, addFlags]

/-- Settles O22: A and the flags are those of `Sub8`; the second reading of AuxCarry is `subFlags_ac`. -/
theorem subtractionWritesDifferenceAndBorrows : Obligations.SubtractionWritesDifferenceAndBorrows := by
  refine ⟨fun o => ⟨encode_alu .sub o, encode_alu .sbb o⟩, fun v => ⟨rfl, rfl⟩, ?effect⟩
  intro s op hop i v form
  obtain ⟨bin, borrowIn, ha, hflags⟩ := accumulate_subtraction hop s v
  have notCompare : op ≠ .cmp := ne_of_mem_of_not_mem hop (by decide)
  refine ⟨_, exec_aluForm form, ?difference, ?flags, ?noBorrow, frame_accumulate_of_ne_cmp notCompare s v⟩
  case difference => rw [ha, toNat_sub8, borrowIn]
  case flags => rw [hflags, ha, ← borrowIn, subFlags_eq]
  case noBorrow => rw [hflags, subFlags_ac, borrowIn]

/-- Settles O23: the compare is the flags of `Sub8` without a borrow in, and its frame names no register. -/
theorem compareWritesFlagsOnly : Obligations.CompareWritesFlagsOnly :=
  ⟨encode_alu .cmp, fun _ => rfl,
    fun s _ v form => ⟨_, exec_aluForm form, accumulate_cmp_flags s v, frame_accumulate s .cmp v⟩⟩

/-- Settles O25: the three operations by `accumulate_logic`, whatever the form of the operand. -/
theorem logicForcesTheCarries : Obligations.LogicForcesTheCarries := by
  refine ⟨fun o => ⟨encode_alu .ana o, encode_alu .xra o, encode_alu .ora o⟩, fun v => ⟨rfl, rfl, rfl⟩, ?effect⟩
  intro s op hop i v form
  obtain ⟨ha, hflags⟩ := accumulate_logic hop s v
  have notCompare : op ≠ .cmp := ne_of_mem_of_not_mem hop (by decide)
  exact ⟨_, exec_aluForm form, ha, hflags, frame_accumulate_of_ne_cmp notCompare s v⟩

end Sys2Proof.Machine
end

section
/-! PROOFS. Increment, decrement and pair arithmetic (42_incdec_pair.md). An increment or decrement writes one place and
the flags of what it wrote, or one pair and no flag: each kind of write is said once, and an instruction's statement is
its encoding, the write `exec` answers, and the number written. -/

namespace Sys2Proof.Machine

/-! ### Encodings by field (R153 to R159) -/

theorem encode_inrR (r : Reg) : encode (Instr.inrR r) = [0b00#2 ++ r.code ++ 0b100#3] := by cases r <;> rfl

theorem encode_dcrR (r : Reg) : encode (Instr.dcrR r) = [0b00#2 ++ r.code ++ 0b101#3] := by cases r <;> rfl

theorem encode_inx (p : Pair) : encode (Instr.inx p) = [0b00#2 ++ p.code ++ 0b0011#4] := by
  rcases p with (_ | _ | _) | _ <;> rfl

theorem encode_dcx (p : Pair) : encode (Instr.dcx p) = [0b00#2 ++ p.code ++ 0b1011#4] := by
  rcases p with (_ | _ | _) | _ <;> rfl

theorem encode_dad (p : Pair) : encode (Instr.dad p) = [0b00#2 ++ p.code ++ 0b1001#4] := by
  rcases p with (_ | _ | _) | _ <;> rfl

/-! ### What `exec` answers for the two forms with M -/

theorem exec_inrM (s : State) : exec .inrM s = .next (s.increment .m) := rfl

theorem exec_dcrM (s : State) : exec .dcrM s = .next (s.decrement .m) := rfl

/-! ### One less, modulo the width -/

theorem toNat_byte_sub_one (v : Byte) : (v - 1).toNat = (v.toNat + 255) % 256 := by bv_omega

theorem toNat_word_sub_one (w : Word) : (w - 1).toNat = (w.toNat + 65535) % 65536 := by bv_omega

/-! ### What one write leaves: the number written, the flags that describe it, and all else as before -/

/-- New flags leave the registers. -/
theorem State.withFlags_reg (s : State) (f : Flags) (r : Reg) : { s with flags := f }.reg r = s.reg r := by
  cases r <;> rfl

/-- A pair just written reads back. -/
theorem State.setRp_rp (s : State) (p : RegPair) (w : Word) : (s.setRp p w).rp p = w := by
  simp [State.rp, highRegister_ne_low]

section
variable {i : Instr} {s : State} {n : Nat}

theorem exec_writes_reg_flags {r : Reg} {v : Byte} (flagsOf : Byte → Flags)
    (h : exec i s = .next { s.setReg r v with flags := flagsOf v }) (value : v.toNat = n) :
    ∃ t, exec i s = .next t ∧ (t.reg r).toNat = n ∧ t.flags = flagsOf (t.reg r) ∧
      Frame { regs := [r], flags := true } s t := by
  have written : { s.setReg r v with flags := flagsOf v }.reg r = v := by rw [State.withFlags_reg]; simp
  exact ⟨_, h, by rw [written, value], by rw [written], (frame_setReg s r v).withFlags _⟩

theorem exec_writes_byte_flags {k : Word} {v : Byte} (flagsOf : Byte → Flags)
    (h : exec i s = .next { s.storeByte k v with flags := flagsOf v }) (value : v.toNat = n) :
    ∃ t, exec i s = .next t ∧ (t.byteAt k).toNat = n ∧ t.flags = flagsOf (t.byteAt k) ∧
      Frame { bytes := [k], flags := true } s t := by
  have written : { s.storeByte k v with flags := flagsOf v }.byteAt k = v :=
    (State.storeByte_byteAt s k k v).trans (if_pos rfl)
  exact ⟨_, h, by rw [written, value], by rw [written], (frame_storeByte s k v).withFlags _⟩

theorem exec_writes_rp_toNat {p : RegPair} {w : Word} (h : exec i s = .next (s.setRp p w)) (value : w.toNat = n) :
    ∃ t, exec i s = .next t ∧ (t.rp p).toNat = n ∧ Frame { regs := [p.high, p.low] } s t :=
  ⟨_, h, by rw [State.setRp_rp, value], frame_setRp s p w⟩

theorem exec_writes_sp_toNat {w : Word} (h : exec i s = .next (s.setPair .sp w)) (value : w.toNat = n) :
    ∃ t, exec i s = .next t ∧ t.sp.toNat = n ∧ Frame { sp := true } s t :=
  ⟨_, h, value, frame_setPair s .sp w⟩

end

/-- DAD leaves in HL the sum modulo 65536. -/
theorem State.addToHl_hl (s : State) (w : Word) : (s.addToHl w).rp .hl = s.rp .hl + w :=
  State.setRp_rp s .hl (s.hl + w)

/-! ### The obligations -/

/-- Settles O27: a register write or a byte store at the old HL of one more, with `incFlags` of what was written. -/
theorem incrementKeepsCarry : Obligations.IncrementKeepsCarry := by
  intro s
  refine ⟨fun r => ⟨encode_inrR r, ?register⟩, rfl, ?memory⟩
  case register => exact exec_writes_reg_flags (incFlags · s.flags) (exec_inrR r s) (BitVec.toNat_add _ 1)
  case memory => exact exec_writes_byte_flags (incFlags · s.flags) (exec_inrM s) (BitVec.toNat_add _ 1)

/-- Settles O28: a register write or a byte store at the old HL of one less, with `decFlags` of what was written; the
spec's sense of AuxCarry makes it the low digit's not being 15. -/
theorem decrementKeepsCarry : Obligations.DecrementKeepsCarry := by
  intro s
  refine ⟨fun r => ⟨encode_dcrR r, ?register⟩, rfl, ?memory⟩
  case register => exact exec_writes_reg_flags (decFlags · s.flags) (exec_dcrR r s) (toNat_byte_sub_one _)
  case memory => exact exec_writes_byte_flags (decFlags · s.flags) (exec_dcrM s) (toNat_byte_sub_one _)

/-- Settles O29: a pair write, or for the fourth pair code a write of SP; neither names the flags. -/
theorem pairIncrementWritesNoFlag : Obligations.PairIncrementWritesNoFlag := by
  intro s
  refine ⟨fun p => ⟨⟨encode_inx (.rp p), ?inx⟩, encode_dcx (.rp p), ?dcx⟩, ⟨rfl, ?inxSp⟩, rfl, ?dcxSp⟩
  case inx => exact exec_writes_rp_toNat (exec_inx (.rp p) s) (BitVec.toNat_add _ 1)
  case dcx => exact exec_writes_rp_toNat (exec_dcx (.rp p) s) (toNat_word_sub_one _)
  case inxSp => exact exec_writes_sp_toNat (exec_inx .sp s) (BitVec.toNat_add _ 1)
  case dcxSp => exact exec_writes_sp_toNat (exec_dcx .sp s) (toNat_word_sub_one _)

/-- Settles O30: HL is written with the sum, and Carry with the comparison of the sum before it is reduced. -/
theorem dadAddsIntoHl : Obligations.DadAddsIntoHl := by
  intro p s
  refine ⟨?places, encode_dad p, _, exec_dad p s, ?sum, rfl, frame_addToHl s (s.pair p)⟩
  case places => rcases p with (_ | _ | _) | _ <;> rfl
  case sum => rw [State.addToHl_hl, BitVec.toNat_add]

end Sys2Proof.Machine
end

section
/-! PROOFS. The accumulator instructions (43_accumulator.md). The decimal adjust is read off its four quantities, the
rotates are one shift of A with a bit let in at the vacated end, and the rest write A or Carry alone. -/

namespace Sys2Proof.Machine

/-! ### What `exec` answers -/

theorem exec_daa (s : State) : exec .daa s = .next s.decimalAdjust := rfl

theorem exec_rlc (s : State) : exec .rlc s = .next s.rotateLeft := rfl

theorem exec_rrc (s : State) : exec .rrc s = .next s.rotateRight := rfl

theorem exec_ral (s : State) : exec .ral s = .next s.rotateLeftCarry := rfl

theorem exec_rar (s : State) : exec .rar s = .next s.rotateRightCarry := rfl

theorem exec_cma (s : State) : exec .cma s = .next { s with a := ~~~s.a } := rfl

theorem exec_stc (s : State) : exec .stc s = .next (s.setCarry true) := rfl

theorem exec_cmc (s : State) : exec .cmc s = .next (s.setCarry !s.flags.cy) := rfl

/-! ### The decimal adjust (R165) -/

theorem daaSum_eq (v : Byte) (ac : Bool) : daaSum v ac = if daaLow v ac then v.toNat + 6 else v.toNat := by
  unfold daaSum
  split <;> rfl

/-- At the spec's default the sum is compared as it stands, not reduced to eight bits (D9). -/
theorem daaHigh_eq (v : Byte) (ac cy : Bool) :
    daaHigh Config.daaMaskBeforeCompare v ac cy = (cy || decide (daaSum v ac > 0x99)) := rfl

theorem toNat_daaResult (maskFirst : Bool) (v : Byte) (ac cy : Bool) :
    (daaResult maskFirst v ac cy).toNat =
      (if daaHigh maskFirst v ac cy then daaSum v ac + 0x60 else daaSum v ac) % 256 := by
  rw [daaResult, BitVec.toNat_ofNat]
  split <;> rfl

/-- An old Carry asks for the high step, so a Carry left as it was is clear. -/
theorem daaFlags_cy (maskFirst : Bool) (v : Byte) (ac cy : Bool) :
    (daaFlags maskFirst v ac cy).cy = daaHigh maskFirst v ac cy := by
  change (if daaHigh maskFirst v ac cy then true else cy) = daaHigh maskFirst v ac cy
  cases cy with
  | true => simp [daaHigh]
  | false => simp

theorem daaFlags_eq (maskFirst : Bool) (v : Byte) (ac cy : Bool) :
    daaFlags maskFirst v ac cy = szpFlags (daaResult maskFirst v ac cy)
      (if daaLow v ac then decide (v.toNat % 16 + 6 > 15) else false)
      (if daaHigh maskFirst v ac cy then true else cy) := by
  rw [daaFlags]
  cases daaLow v ac <;> rfl

/-! ### One bit rotated (R168 to R171) -/

theorem bitSeven_eq (v : Byte) : v.getLsbD 7 = decide (v.toNat / 128 = 1) := by
  have byte := v.isLt
  rw [← BitVec.testBit_toNat, Nat.testBit_eq_decide_div_mod_eq]
  refine decide_eq_decide.mpr ?_
  omega

theorem bitZero_eq (v : Byte) : v.getLsbD 0 = decide (v.toNat % 2 = 1) := Nat.testBit_zero v.toNat

theorem toNat_bitSeven (v : Byte) : (v.getLsbD 7).toNat = v.toNat / 128 := by
  have byte := v.isLt
  rw [← BitVec.testBit_toNat, Nat.toNat_testBit]
  omega

theorem toNat_bitZero (v : Byte) : (v.getLsbD 0).toNat = v.toNat % 2 := by
  rw [← BitVec.testBit_toNat, Nat.toNat_testBit, pow_zero, Nat.div_one]

/-- A shifted left with a bit let in at the low end is still a byte. -/
theorem toNat_shiftIn_low (v : Byte) (bit : Bool) :
    (BitVec.ofNat 8 (v.toNat * 2 % 256 + bit.toNat)).toNat = v.toNat * 2 % 256 + bit.toNat := by
  have := bit.toNat_le
  rw [BitVec.toNat_ofNat]
  omega

/-- A shifted right with a bit let in at the high end is still a byte. -/
theorem toNat_shiftIn_high (v : Byte) (bit : Bool) :
    (BitVec.ofNat 8 (v.toNat / 2 + 128 * bit.toNat)).toNat = v.toNat / 2 + 128 * bit.toNat := by
  have := bit.toNat_le
  rw [BitVec.toNat_ofNat]
  omega

theorem State.toNat_rotateLeft_a (s : State) : s.rotateLeft.a.toNat = s.a.toNat * 2 % 256 + s.a.toNat / 128 :=
  (toNat_shiftIn_low s.a _).trans (by rw [toNat_bitSeven])

theorem State.toNat_rotateRight_a (s : State) : s.rotateRight.a.toNat = s.a.toNat / 2 + 128 * (s.a.toNat % 2) :=
  (toNat_shiftIn_high s.a _).trans (by rw [toNat_bitZero])

theorem State.toNat_rotateLeftCarry_a (s : State) :
    s.rotateLeftCarry.a.toNat = s.a.toNat * 2 % 256 + s.flags.cy.toNat :=
  toNat_shiftIn_low s.a s.flags.cy

theorem State.toNat_rotateRightCarry_a (s : State) :
    s.rotateRightCarry.a.toNat = s.a.toNat / 2 + 128 * s.flags.cy.toNat :=
  toNat_shiftIn_high s.a s.flags.cy

/-- The machine word's own rotation joins the two parts by OR; they share no bit, so it is their sum. -/
theorem toNat_rotateLeft_one (v : Byte) : (v.rotateLeft 1).toNat = v.toNat * 2 % 256 + v.toNat / 128 := by
  have byte := v.isLt
  have shifted : v.toNat <<< 1 % 256 = 2 ^ 1 * (v.toNat % 128) := by rw [Nat.shiftLeft_eq]; omega
  have rotatedOut : v.toNat >>> 7 = v.toNat / 128 := Nat.shiftRight_eq_div_pow _ 7
  calc (v.rotateLeft 1).toNat
      = v.toNat <<< 1 % 256 ||| v.toNat >>> 7 := BitVec.toNat_rotateLeft
    _ = 2 ^ 1 * (v.toNat % 128) + v.toNat / 128 := by
      rw [shifted, rotatedOut, Nat.two_pow_add_eq_or_of_lt (by omega)]
    _ = v.toNat * 2 % 256 + v.toNat / 128 := by omega

theorem toNat_rotateRight_one (v : Byte) : (v.rotateRight 1).toNat = v.toNat / 2 + 128 * (v.toNat % 2) := by
  have byte := v.isLt
  have shifted : v.toNat >>> 1 = v.toNat / 2 := Nat.shiftRight_eq_div_pow _ 1
  have rotatedOut : v.toNat <<< 7 % 256 = 2 ^ 7 * (v.toNat % 2) := by rw [Nat.shiftLeft_eq]; omega
  calc (v.rotateRight 1).toNat
      = v.toNat >>> 1 ||| v.toNat <<< 7 % 256 := BitVec.toNat_rotateRight
    _ = 2 ^ 7 * (v.toNat % 2) + v.toNat / 2 := by
      rw [shifted, rotatedOut, Nat.or_comm, Nat.two_pow_add_eq_or_of_lt (by omega)]
    _ = v.toNat / 2 + 128 * (v.toNat % 2) := Nat.add_comm _ _

theorem State.rotateLeft_a (s : State) : s.rotateLeft.a = s.a.rotateLeft 1 :=
  BitVec.eq_of_toNat_eq (s.toNat_rotateLeft_a.trans (toNat_rotateLeft_one s.a).symm)

theorem State.rotateRight_a (s : State) : s.rotateRight.a = s.a.rotateRight 1 :=
  BitVec.eq_of_toNat_eq (s.toNat_rotateRight_a.trans (toNat_rotateRight_one s.a).symm)

/-- Carry written with bit 7 of the old A, the other flags kept. -/
theorem withCarry_bitSeven (f : Flags) (v : Byte) :
    { f with cy := v.getLsbD 7 } = { f with cy := decide (v.toNat / 128 = 1) } := by rw [bitSeven_eq]

/-- Carry written with bit 0 of the old A, the other flags kept. -/
theorem withCarry_bitZero (f : Flags) (v : Byte) :
    { f with cy := v.getLsbD 0 } = { f with cy := decide (v.toNat % 2 = 1) } := by rw [bitZero_eq]

/-! ### The obligations -/

/-- Settles O31: the rule's four quantities are the model's `daaLow`, `daaSum`, `daaHigh` and the sum under
`daaResult`, and A and the flags are those. -/
theorem daaFollowsTheAlgorithm : Obligations.DaaFollowsTheAlgorithm := by
  intro s low high t1 t2 hlow ht1 hhigh ht2
  obtain rfl : low = daaLow s.a s.flags.ac := hlow
  obtain rfl : t1 = daaSum s.a s.flags.ac := ht1.trans (daaSum_eq _ _).symm
  obtain rfl : high = daaHigh Config.daaMaskBeforeCompare s.a s.flags.ac s.flags.cy :=
    hhigh.trans (daaHigh_eq _ _ _).symm
  refine ⟨rfl, _, exec_daa s, ?result, daaFlags_eq _ _ _ _, daaFlags_cy _ _ _ _, frame_decimalAdjust s⟩
  case result => rw [ht2]; exact toNat_daaResult _ _ _ _

/-- Settles O33: the four rotates are two shifts, each with the bit rotated out or the old Carry let in. -/
theorem rotatesMoveOneBit : Obligations.RotatesMoveOneBit := by
  intro s
  refine ⟨⟨rfl, _, exec_rlc s, ?rlc⟩, ⟨rfl, _, exec_rrc s, ?rrc⟩, ⟨rfl, _, exec_ral s, ?ral⟩, rfl, _, exec_rar s, ?rar⟩
  case rlc => exact ⟨s.toNat_rotateLeft_a, s.rotateLeft_a, withCarry_bitSeven s.flags s.a, frame_rotateLeft s⟩
  case rrc => exact ⟨s.toNat_rotateRight_a, s.rotateRight_a, withCarry_bitZero s.flags s.a, frame_rotateRight s⟩
  case ral => exact ⟨s.toNat_rotateLeftCarry_a, withCarry_bitSeven s.flags s.a, frame_rotateLeftCarry s⟩
  case rar => exact ⟨s.toNat_rotateRightCarry_a, withCarry_bitZero s.flags s.a, frame_rotateRightCarry s⟩

/-- Settles O34: inverting a byte subtracts it from 255, and the other two are writes of Carry. -/
theorem complementAndCarryInstructions : Obligations.ComplementAndCarryInstructions :=
  fun s => ⟨⟨rfl, _, exec_cma s, BitVec.toNat_not, frame_a s _⟩, ⟨rfl, _, exec_stc s, rfl, frame_setCarry s _⟩,
    rfl, _, exec_cmc s, rfl, frame_setCarry s _⟩

end Sys2Proof.Machine
end

section
/-! PROOFS. Control transfer (44_control.md). A jump, a call and a return are each said once, with what is left alone; a
conditional form is that same transfer when its condition holds and the state as it was when it does not. -/

namespace Sys2Proof.Machine

/-! ### Encodings (R182 to R192) -/

/-- A word operand written as its two bytes follows its opcode low byte first (R182, R186). -/
theorem wordOperand_joinBytes (op low high : Byte) :
    [op, loByte (joinBytes high low), hiByte (joinBytes high low)] = [op, low, high] := by
  rw [loByte_joinBytes, hiByte_joinBytes]

theorem encode_jcc (k : Cond) (w : Word) :
    encode (Instr.jcc k w) = [0b11#2 ++ k.code ++ 0b010#3, loByte w, hiByte w] := by
  cases k <;> rfl

theorem encode_ccc (k : Cond) (w : Word) :
    encode (Instr.ccc k w) = [0b11#2 ++ k.code ++ 0b100#3, loByte w, hiByte w] := by
  cases k <;> rfl

theorem encode_rcc (k : Cond) : encode (Instr.rcc k) = [0b11#2 ++ k.code ++ 0b000#3] := by cases k <;> rfl

theorem encode_rst (n : BitVec 3) : encode (Instr.rst n) = [0b11#2 ++ n ++ 0b111#3] := by
  rcases restart_cases n with rfl | rfl | rfl | rfl | rfl | rfl | rfl | rfl <;> rfl

/-! ### What `exec` answers for PCHL -/

theorem exec_pchl (s : State) : exec .pchl s = .next (s.jump (joinBytes s.h s.l)) := rfl

/-! ### What a transfer leaves -/

/-- A call taken: the target in PC, the old PC in the two bytes below SP, SP down by two, all else as before. -/
theorem call_effect (s : State) (k : Word) :
    (s.call k).pc = k ∧ (s.call k).byteAt (s.sp - 1) = hiByte s.pc ∧ (s.call k).byteAt (s.sp - 2) = loByte s.pc ∧
      (s.call k).sp = s.sp - 2 ∧ Frame { pc := true, sp := true, bytes := pushedBytes s.sp } s (s.call k) := by
  obtain ⟨high, low, sp⟩ := push16_writes s s.pc
  exact ⟨rfl, high, low, sp, frame_call s k⟩

/-- A return taken: PC from the two bytes at SP, low byte first, SP up by two, all else as before. -/
theorem ret_effect (s : State) :
    s.ret.pc.toNat = (s.byteAt (s.sp + 1)).toNat * 256 + (s.byteAt s.sp).toNat ∧ s.ret.sp = s.sp + 2 ∧
      Frame { pc := true, sp := true } s s.ret :=
  ⟨toNat_joinBytes _ _, rfl, frame_ret s⟩

theorem State.jumpIf_pc (s : State) (cond : Cond) (k : Word) :
    (s.jumpIf cond k).pc = if s.flags.holds cond then k else s.pc :=
  apply_ite State.pc _ _ _

section
variable {s : State} {cond : Cond}

theorem State.callIf_of_holds (h : s.flags.holds cond = true) (k : Word) : s.callIf cond k = s.call k := if_pos h

theorem State.callIf_of_not_holds (h : s.flags.holds cond = false) (k : Word) : s.callIf cond k = s :=
  if_neg (ne_true_of_eq_false h)

theorem State.retIf_of_holds (h : s.flags.holds cond = true) : s.retIf cond = s.ret := if_pos h

theorem State.retIf_of_not_holds (h : s.flags.holds cond = false) : s.retIf cond = s :=
  if_neg (ne_true_of_eq_false h)

end

/-! ### The obligations -/

/-- Settles O35: every form answers a `jump`, and a conditional one not taken keeps PC. -/
theorem jumpsSetPc : Obligations.JumpsSetPc := by
  intro low high s
  refine ⟨⟨wordOperand_joinBytes 0xC3 low high, wordOperand_joinBytes 0xCB low high, ?always⟩,
    fun k => ⟨?encoding, _, exec_jcc k _ s, s.jumpIf_pc k _, frame_jumpIf s k _⟩,
    rfl, _, exec_pchl s, rfl, frame_jump s _⟩
  case always => exact fun i form => ⟨_, exec_jmpForms _ i form s, rfl, frame_jump s _⟩
  case encoding => exact (encode_jcc k _).trans (wordOperand_joinBytes _ low high)

/-- Settles O36: every form answers a `call` or, for a condition that is false, the state as it was. -/
theorem callsPushTheReturnAddress : Obligations.CallsPushTheReturnAddress := by
  intro low high s
  refine ⟨⟨wordOperand_joinBytes 0xCD low high, wordOperand_joinBytes 0xDD low high,
      wordOperand_joinBytes 0xED low high, wordOperand_joinBytes 0xFD low high, ?always⟩,
    fun k => ⟨?encoding, _, exec_ccc k _ s, ?taken, ?notTaken⟩⟩
  case always => exact fun i form => ⟨_, exec_callForms _ i form s, call_effect s _⟩
  case encoding => exact (encode_ccc k _).trans (wordOperand_joinBytes _ low high)
  case taken => intro holds; rw [State.callIf_of_holds holds]; exact call_effect s _
  case notTaken => intro fails; rw [State.callIf_of_not_holds fails]; exact Frame.refl _ s

/-- Settles O37: every form answers a `ret` or, for a condition that is false, the state as it was. -/
theorem returnsPopPc : Obligations.ReturnsPopPc := by
  intro s
  refine ⟨⟨rfl, rfl, ?always⟩, fun k => ⟨encode_rcc k, _, exec_rcc k s, ?taken, ?notTaken⟩⟩
  case always => exact fun i form => ⟨_, exec_retForms i form s, ret_effect s⟩
  case taken => intro holds; rw [State.retIf_of_holds holds]; exact ret_effect s
  case notTaken => intro fails; rw [State.retIf_of_not_holds fails]; exact Frame.refl _ s

/-- Settles O38: a restart is a `call` to its vector, and the vector of `n` is `8 * n`. -/
theorem restartCallsItsVector : Obligations.RestartCallsItsVector := by
  intro n s
  obtain ⟨pc, writes⟩ := call_effect s (vectorAddress n)
  exact ⟨encode_rst n, _, exec_rst n s, by rw [pc, toNat_vectorAddress], writes⟩

end Sys2Proof.Machine
end

section
/-! PROOFS. The stack (45_stack.md). A push and a pop are each said once over the two bytes moved; PSW is one more such
word, A high and the flag byte low. -/

namespace Sys2Proof.Machine

/-! ### Encodings (R202, R204) -/

theorem encode_push (p : RegPair) : encode (Instr.push p) = [0b11#2 ++ p.code ++ 0b0101#4] := by cases p <;> rfl

theorem encode_pop (p : RegPair) : encode (Instr.pop p) = [0b11#2 ++ p.code ++ 0b0001#4] := by cases p <;> rfl

/-! ### What `exec` answers for PSW (R203, R205) -/

theorem exec_pushPsw (s : State) : exec .pushPsw s = .next (s.push16 (joinBytes s.a s.flags.toByte)) := rfl

theorem exec_popPsw (s : State) : exec .popPsw s = .next (s.setPsw s.stackTop).pop16 := rfl

/-! ### The flag byte as a number (R33) -/

/-- The weighted flags with the fixed bit 1 are still a byte: the packing loses nothing (R33). -/
theorem Flags.toNat_toByte (f : Flags) :
    f.toByte.toNat = f.s.toNat * 128 + f.z.toNat * 64 + f.ac.toNat * 16 + f.p.toNat * 4 + 2 + f.cy.toNat := by
  have := f.s.toNat_le
  have := f.z.toNat_le
  have := f.ac.toNat_le
  have := f.p.toNat_le
  have := f.cy.toNat_le
  rw [Flags.toByte, BitVec.toNat_ofNat]
  omega

/-! ### The word on top of the stack -/

/-- The popped word's high byte is the one at SP + 1 (R10). -/
@[simp] theorem hiByte_stackTop (s : State) : hiByte s.stackTop = s.byteAt (s.sp + 1) := hiByte_joinBytes _ _

/-- The popped word's low byte is the one at SP (R10). -/
@[simp] theorem loByte_stackTop (s : State) : loByte s.stackTop = s.byteAt s.sp := loByte_joinBytes _ _

/-! ### What a push and a pop leave -/

/-- Two bytes pushed: the high one below SP, the low one below that, SP down by two, all else as before. -/
theorem push16_effect (s : State) (high low : Byte) :
    (s.push16 (joinBytes high low)).byteAt (s.sp - 1) = high ∧
      (s.push16 (joinBytes high low)).byteAt (s.sp - 2) = low ∧
      (s.push16 (joinBytes high low)).sp = s.sp - 2 ∧
      Frame { sp := true, bytes := pushedBytes s.sp } s (s.push16 (joinBytes high low)) := by
  obtain ⟨highWritten, lowWritten, sp⟩ := push16_writes s (joinBytes high low)
  exact ⟨highWritten.trans (hiByte_joinBytes high low), lowWritten.trans (loByte_joinBytes high low), sp,
    frame_push16 s _⟩

/-- SP raised beside a change. -/
theorem Frame.withPop {c : Changes} {s t : State} (h : Frame c s t) : Frame { c with sp := true } s t.pop16 :=
  Frame.trans (h.mono (fun _ => id) (fun _ => id) id id (fun _ => rfl) id id id id)
    ((frame_pop16 t).mono nofun nofun nofun nofun id nofun nofun nofun nofun)

/-- A pair popped: its low register from SP, its high one from SP + 1, SP up by two, all else as before. -/
theorem popPair_effect (s : State) (p : RegPair) :
    (s.setRp p s.stackTop).pop16.reg p.low = s.byteAt s.sp ∧
      (s.setRp p s.stackTop).pop16.reg p.high = s.byteAt (s.sp + 1) ∧
      (s.setRp p s.stackTop).pop16.sp = s.sp + 2 ∧
      Frame { regs := [p.high, p.low], sp := true } s (s.setRp p s.stackTop).pop16 :=
  ⟨by simp, by simp [highRegister_ne_low], by simp, (frame_setRp s p _).withPop⟩

/-- PSW popped: A from SP + 1, the flags from the byte at SP, SP up by two, all else as before. -/
theorem popPsw_effect (s : State) :
    (s.setPsw s.stackTop).pop16.a = s.byteAt (s.sp + 1) ∧
      (s.setPsw s.stackTop).pop16.flags = Flags.ofByte (s.byteAt s.sp) ∧
      (s.setPsw s.stackTop).pop16.sp = s.sp + 2 ∧
      Frame { regs := [.a], flags := true, sp := true } s (s.setPsw s.stackTop).pop16 :=
  ⟨hiByte_stackTop s, congrArg Flags.ofByte (loByte_stackTop s), rfl, (frame_setPsw s _).withPop⟩

/-! ### The obligations -/

/-- Settles O40: each form is one push of two bytes; the low one of PSW is the flag byte, read as a number. -/
theorem pushStoresTheWord : Obligations.PushStoresTheWord := by
  intro s
  refine ⟨fun p => ⟨encode_push p, _, exec_push p s, push16_effect s (s.reg p.high) (s.reg p.low)⟩, rfl, ?psw⟩
  case psw =>
    obtain ⟨high, low, rest⟩ := push16_effect s s.a s.flags.toByte
    exact ⟨_, exec_pushPsw s, high, by rw [low, Flags.toNat_toByte], rest⟩

/-- Settles O41: each form writes the two bytes on top of the stack to their places and raises SP. -/
theorem popLoadsTheWord : Obligations.PopLoadsTheWord :=
  fun s => ⟨fun p => ⟨encode_pop p, _, exec_pop p s, popPair_effect s p⟩, rfl, _, exec_popPsw s, popPsw_effect s⟩

end Sys2Proof.Machine
end

section
/-! PROOFS. Input, output and the host's input setters (46_io_ports.md). The port mux is said once port by port, the
shifter's two directions and a driven mask once as numbers and bits; an instruction's statement is its encoding, the
access `exec` answers, and what the mux says of the port. -/

namespace Sys2Proof.Machine

/-! ### What `exec` answers (R211, R212) -/

theorem exec_inPort (p : Byte) (s : State) : exec (.inPort p) s = .next { s with a := s.portRead p } := rfl

theorem exec_outPort (p : Byte) (s : State) : exec (.outPort p) s = .next (s.portWrite p s.a) := rfl

/-! ### The port mux read (R213) -/

theorem State.portRead_zero (s : State) : s.portRead 0 = 0x06 := rfl

theorem State.portRead_one (s : State) : s.portRead 1 = s.port1 := rfl

theorem State.portRead_two (s : State) : s.portRead 2 = s.port2 := rfl

theorem State.portRead_three (s : State) : s.portRead 3 = shifterOutput s.shiftData s.shiftOffset := rfl

/-- A port the mux does not list reads as 0 (R220). -/
theorem State.portRead_of_four_le (s : State) {p : Byte} (h : 4 ≤ p.toNat) : s.portRead p = 0 := by
  unfold State.portRead
  split
  case h_5 => rfl
  all_goals omega

/-! ### The port mux written (R215) -/

theorem State.portWrite_two (s : State) (v : Byte) :
    s.portWrite 2 v = { s with shiftOffset := v.setWidth 3 } := rfl

theorem State.portWrite_four (s : State) (v : Byte) :
    s.portWrite 4 v = { s with shiftData := shifterInput s.shiftData v } := rfl

/-- A write to any port but 2 and 4 is accepted and ignored (R220). -/
theorem State.portWrite_of_ne (s : State) {p : Byte} (v : Byte) (ne_two : p ≠ 2) (ne_four : p ≠ 4) :
    s.portWrite p v = s := by
  unfold State.portWrite
  split
  case h_1 two => exact absurd (BitVec.eq_of_toNat_eq two) ne_two
  case h_2 four => exact absurd (BitVec.eq_of_toNat_eq four) ne_four
  case h_3 => rfl

/-! ### The shifter as numbers (R216, R218) -/

theorem toNat_shifterOutput (data : Word) (offset : BitVec 3) :
    (shifterOutput data offset).toNat = data.toNat / 2 ^ (8 - offset.toNat) % 256 := by
  rw [shifterOutput, BitVec.toNat_setWidth, BitVec.toNat_ushiftRight, Nat.shiftRight_eq_div_pow]

theorem toNat_shifterInput (data : Word) (v : Byte) :
    (shifterInput data v).toNat = v.toNat * 256 + data.toNat / 256 := by
  rw [shifterInput, toNat_joinBytes, toNat_hiByte]

/-! ### A driven mask (R221) -/

/-- The model clears a mask by its complement, the rule by `255 - MASK`. -/
theorem driveBits_eq (mask : Byte) (on : Bool) (port : Byte) :
    driveBits mask on port = if on then port ||| mask else port &&& (255 - mask) := by
  have complement : 255 - mask = ~~~mask := BitVec.allOnes_sub_eq_not mask
  rw [complement, driveBits]

/-- Each bit of the mask is driven, every other bit kept. -/
theorem getLsbD_driveBits (mask : Byte) (on : Bool) (port : Byte) {k : Nat} (hk : k < 8) :
    (driveBits mask on port).getLsbD k = if mask.getLsbD k then on else port.getLsbD k := by
  cases on with
  | true =>
    rw [driveBits, if_pos rfl, BitVec.getLsbD_or]
    cases mask.getLsbD k <;> simp
  | false =>
    rw [driveBits, if_neg Bool.false_ne_true, BitVec.getLsbD_and, BitVec.getLsbD_not, decide_eq_true hk]
    cases mask.getLsbD k <;> simp

/-! ### The obligations -/

/-- Settles O43: A is written with what the mux answers, port by port, and nothing else is. -/
theorem inReadsThePortMux : Obligations.InReadsThePortMux := by
  intro p s
  refine ⟨rfl, _, exec_inPort p s, ?status, ?inputs, ?dip, ?shifter, s.portRead_of_four_le, frame_a s _⟩
  case status => rintro rfl; exact s.portRead_zero
  case inputs => rintro rfl; exact s.portRead_one
  case dip => rintro rfl; exact s.portRead_two
  case shifter => rintro rfl; exact toNat_shifterOutput _ _

/-- Settles O44: ports 2 and 4 each write one half of the shifter, and a write to any other port leaves the state as
it was. -/
theorem outWritesThePortMux : Obligations.OutWritesThePortMux := by
  intro p s
  refine ⟨rfl, _, exec_outPort p s, ?offset, ?data, ?ignored⟩
  case offset =>
    rintro rfl
    rw [s.portWrite_two]
    exact ⟨BitVec.toNat_setWidth 3 s.a, frame_portWrite s 2 s.a⟩
  case data =>
    rintro rfl
    rw [s.portWrite_four]
    exact ⟨toNat_shifterInput s.shiftData s.a, frame_portWrite s 4 s.a⟩
  case ignored =>
    intro ne_two ne_four
    rw [s.portWrite_of_ne s.a ne_two ne_four]
    exact Frame.refl _ s

/-- Settles O46: a setter drives its mask in port 1, whatever the mask, and IN 1 reads port 1. -/
theorem settersDriveTheirMask : Obligations.SettersDriveTheirMask :=
  fun s input on => ⟨driveBits_eq _ on s.port1, fun _ => getLsbD_driveBits _ on s.port1, rfl, _,
    exec_inPort 1 (s.setInput input on), (s.setInput input on).portRead_one⟩

end Sys2Proof.Machine
end

section
/-! PROOFS. NOP, EI and DI (47_system.md). An interrupt request is said once for IE set and once for IE clear; EI and DI
each leave one of the two. -/

namespace Sys2Proof.Machine

/-! ### What `exec` answers for EI and DI (R233, R234) -/

theorem exec_ei (s : State) : exec .ei s = .next { s with ie := true } := rfl

theorem exec_di (s : State) : exec .di s = .next { s with ie := false } := rfl

/-! ### IE alone written -/

theorem frame_ie (s : State) (enable : Bool) : Frame { ie := true } s { s with ie := enable } where
  regs r _ := by cases r <;> rfl
  bytes _ _ := rfl
  flags _ := rfl
  pc _ := rfl
  sp _ := rfl
  halted _ := rfl
  ie named := nomatch named
  shiftData _ := rfl
  shiftOffset _ := rfl
  port1 := rfl
  port2 := rfl
  intSched := rfl
  cycleAcc := rfl
  half := rfl
  script := rfl

/-! ### An interrupt request, by IE (R243) -/

section
variable {s : State}

theorem State.requestInterrupt_of_ie (h : s.ie = true) (v : BitVec 3) :
    s.requestInterrupt v = { { s with ie := false, halted := false }.push16 s.pc with pc := vectorAddress v } :=
  if_pos h

theorem State.requestInterrupt_of_not_ie (h : s.ie = false) (v : BitVec 3) : s.requestInterrupt v = s :=
  if_neg (ne_true_of_eq_false h)

/-- A request accepted leaves PC at its vector, `8 * v`. -/
theorem State.toNat_requestInterrupt_pc (h : s.ie = true) (v : BitVec 3) :
    (s.requestInterrupt v).pc.toNat = 8 * v.toNat := by
  rw [State.requestInterrupt_of_ie h]
  exact toNat_vectorAddress v

end

/-! ### The obligations -/

/-- Settles O47: the eight encodings by evaluating the encoder, the effect by the law of the NOP forms. -/
theorem nopFormsChangeNothing : Obligations.NopFormsChangeNothing :=
  ⟨rfl, exec_nopForms⟩

/-- Settles O49: EI and DI write IE alone, and the request that follows is accepted or dropped by the IE just
written. -/
theorem eiAndDiActAtOnce : Obligations.EiAndDiActAtOnce := by
  intro s
  refine ⟨⟨rfl, _, exec_ei s, rfl, frame_ie s true, ?accepted⟩, ⟨rfl, _, exec_di s, rfl, frame_ie s false, ?dropped⟩⟩
  case accepted => exact State.toNat_requestInterrupt_pc rfl
  case dropped => exact State.requestInterrupt_of_not_ie rfl

end Sys2Proof.Machine
end

section
/-! PROOFS. No synchronous exception (60_exceptions.md R241): what may answer a fault or a refusal is `exec` alone, and
no instruction does; from there up to a step by the functions that call it. -/

namespace Sys2Proof.Machine

/-- Every instruction answers a next state: a family by what `exec` answers for its members, an instruction outside
the families by its own arm. -/
theorem exists_exec_eq_next (i : Instr) (s : State) : ∃ t, exec i s = .next t := by
  cases i using Instr.byFamily with
  | movRR dst src => exact ⟨_, exec_movRR dst src s⟩
  | movRM dst => exact ⟨_, exec_movRM dst s⟩
  | movMR src => exact ⟨_, exec_movMR src s⟩
  | mviR r v => exact ⟨_, exec_mviR r v s⟩
  | lxi p w => exact ⟨_, exec_lxi p w s⟩
  | alu op o => exact ⟨_, exec_alu op o s⟩
  | aluImm op v => exact ⟨_, exec_aluImm op v s⟩
  | inrR r => exact ⟨_, exec_inrR r s⟩
  | dcrR r => exact ⟨_, exec_dcrR r s⟩
  | inx p => exact ⟨_, exec_inx p s⟩
  | dcx p => exact ⟨_, exec_dcx p s⟩
  | dad p => exact ⟨_, exec_dad p s⟩
  | jmpForms k i form => exact ⟨_, exec_jmpForms k i form s⟩
  | jcc cond k => exact ⟨_, exec_jcc cond k s⟩
  | callForms k i form => exact ⟨_, exec_callForms k i form s⟩
  | ccc cond k => exact ⟨_, exec_ccc cond k s⟩
  | retForms i form => exact ⟨_, exec_retForms i form s⟩
  | rcc cond => exact ⟨_, exec_rcc cond s⟩
  | rst n => exact ⟨_, exec_rst n s⟩
  | push p => exact ⟨_, exec_push p s⟩
  | pop p => exact ⟨_, exec_pop p s⟩
  | nopForms i form => exact ⟨_, exec_nopForms i form s⟩
  | _ => exact ⟨_, rfl⟩

/-! ### The interpreter, by `halted` (R240) -/

theorem interpret_of_halted {s : State} (h : s.halted = true) : interpret s = .next s := if_pos h

theorem interpret_of_not_halted {s : State} (h : s.halted = false) : interpret s = exec s.fetched s.pastInstr :=
  if_neg (ne_true_of_eq_false h)

theorem exists_interpret_eq_next (s : State) : ∃ t, interpret s = .next t := by
  cases h : s.halted with
  | true => exact ⟨s, interpret_of_halted h⟩
  | false =>
    rw [interpret_of_not_halted h]
    exact exists_exec_eq_next s.fetched s.pastInstr

/-! ### The machine's own turn, by the scheduler's budget (R247) -/

theorem machineTurn_of_halfFrameOver {s : State} (h : s.halfFrameOver = true) :
    machineTurn s = .next s.endHalfFrame := if_pos h

/-- Inside a half-frame the turn is the interpreter's, its cycles accounted for. -/
theorem machineTurn_of_interpret {s t : State} (inside : s.halfFrameOver = false) (h : interpret s = .next t) :
    machineTurn s = .next (t.account (reportedCycles s)) := by
  rw [machineTurn, if_neg (ne_true_of_eq_false inside), h]

theorem exists_machineTurn_eq_next (s : State) : ∃ t, machineTurn s = .next t := by
  cases h : s.halfFrameOver with
  | true => exact ⟨_, machineTurn_of_halfFrameOver h⟩
  | false =>
    obtain ⟨t, ht⟩ := exists_interpret_eq_next s
    exact ⟨_, machineTurn_of_interpret h ht⟩

/-! ### A step, by the turn it takes (R246) -/

section
variable {s : State} {rest : List Turn}

theorem step_of_script_nil (h : s.script = []) : step s = machineTurn s := by
  rw [step, takeTurn, h]

theorem step_of_script_machine (h : s.script = .machine :: rest) :
    step s = machineTurn { s with script := rest } := by
  rw [step, takeTurn, h]

theorem step_of_script_request {v : BitVec 3} (h : s.script = .request v :: rest) :
    step s = .next ({ s with script := rest }.requestInterrupt v) := by
  rw [step, takeTurn, h]

theorem step_of_script_setInput {input : Input} {on : Bool} (h : s.script = .setInput input on :: rest) :
    step s = .next ({ s with script := rest }.setInput input on) := by
  rw [step, takeTurn, h]

theorem step_of_script_resetCpu (h : s.script = .resetCpu :: rest) :
    step s = .next { s with script := rest }.resetCpu := by
  rw [step, takeTurn, h]

end

/-- Only the machine's own turn calls `exec`; the host's turns are updates of the state. -/
theorem exists_step_eq_next (s : State) : ∃ t, step s = .next t := by
  cases h : s.script with
  | nil =>
    rw [step_of_script_nil h]
    exact exists_machineTurn_eq_next s
  | cons turn rest =>
    cases turn with
    | machine =>
      rw [step_of_script_machine h]
      exact exists_machineTurn_eq_next { s with script := rest }
    | request v => exact ⟨_, step_of_script_request h⟩
    | setInput input on => exact ⟨_, step_of_script_setInput h⟩
    | resetCpu => exact ⟨_, step_of_script_resetCpu h⟩

/-! ### The obligation -/

/-- Settles O12: the family-by-family law of `exec`, carried up through the turns to a step. -/
theorem nothingEverFaults : Obligations.NothingEverFaults :=
  ⟨exists_exec_eq_next, exists_step_eq_next⟩

end Sys2Proof.Machine
end

section
/-! PROOFS. Reset and launch (70_reset_and_hazards.md R271, R272; 20_memory.md R60). -/

namespace Sys2Proof.Machine

theorem State.reset_reg (r : Reg) : State.reset.reg r = 0 := by cases r <;> rfl

theorem State.resetCpu_reg (s : State) (r : Reg) : s.resetCpu.reg r = 0 := by cases r <;> rfl

theorem State.launch_reg (p : Launch) (turns : List Turn) (r : Reg) : (State.launch p turns).reg r = 0 := by
  cases r <;> rfl

/-- Settles O1: each part of the reset state, and the flag byte of five clear flags. -/
theorem resetLeavesTheSpecValues : Obligations.ResetLeavesTheSpecValues :=
  ⟨State.reset_reg, rfl, rfl, rfl, rfl, rfl, rfl⟩

/-! ### Memory at launch -/

theorem State.launch_byteAt (p : Launch) (turns : List Turn) (k : Word) :
    (State.launch p turns).byteAt k = launchByte p k := by
  change Memory.read (Memory.ofBytes (launchByte p) 65536) k.toNat = launchByte p k
  rw [Memory.read_ofBytes, if_pos k.isLt, BitVec.ofNat_toNat, BitVec.setWidth_eq]

/-- The address of a byte of a ROM image. -/
theorem toNat_imageAddress (image : BitVec 2) (offset : BitVec 11) :
    (BitVec.ofNat 16 (image.toNat * 0x800 + offset.toNat)).toNat = image.toNat * 0x800 + offset.toNat := by
  have := image.isLt
  have := offset.isLt
  rw [BitVec.toNat_ofNat]
  omega

/-- The image and the offset are read back from the address's bits 12, 11 and 10 to 0. -/
theorem launchByte_imageAddress (p : Launch) (image : BitVec 2) (offset : BitVec 11) :
    launchByte p (BitVec.ofNat 16 (image.toNat * 0x800 + offset.toNat)) = p.romImage image offset := by
  have address := toNat_imageAddress image offset
  have := image.isLt
  have := offset.isLt
  have inRom : (BitVec.ofNat 16 (image.toNat * 0x800 + offset.toNat)).toNat < 0x2000 := by omega
  have imageBits : (BitVec.ofNat 16 (image.toNat * 0x800 + offset.toNat)).extractLsb' 11 2 = image := by
    apply BitVec.eq_of_toNat_eq
    rw [BitVec.extractLsb'_toNat, address, Nat.shiftRight_eq_div_pow]
    omega
  have offsetBits : (BitVec.ofNat 16 (image.toNat * 0x800 + offset.toNat)).extractLsb' 0 11 = offset := by
    apply BitVec.eq_of_toNat_eq
    rw [BitVec.extractLsb'_toNat, address, Nat.shiftRight_zero]
    omega
  rw [launchByte, if_pos inRom, imageBits, offsetBits]

/-- Settles O2: the reset by its values and its frame; the launched memory read as its table of bytes. -/
theorem resetTouchesTheInterpreterOnly : Obligations.ResetTouchesTheInterpreterOnly := by
  refine ⟨fun s => ⟨s.resetCpu_reg, rfl, rfl, rfl, rfl, rfl, frame_resetCpu s⟩, fun p turns =>
    ⟨State.launch_reg p turns, rfl, rfl, rfl, rfl, rfl, fun image offset => ?rom, fun k aboveRom => ?ram,
      rfl, rfl, rfl, rfl, rfl, rfl, rfl, rfl⟩⟩
  case rom => rw [State.launch_byteAt, launchByte_imageAddress]
  case ram => rw [State.launch_byteAt, launchByte, if_neg (Nat.not_lt.mpr aboveRom)]

end Sys2Proof.Machine
end

section
/-! PROOFS. Decoder and encoder are inverse to each other (30_encoding.md). An instruction has one of three formats, by
its length; for each format the round trip is one lemma, and an instruction's part of it is its encoding and what the
decoder reads at its opcode byte. -/

namespace Sys2Proof.Machine

/-! ### The round trip, by format (R81) -/

theorem opcodeLength_of_encode {i : Instr} {op : Byte} {operands : List Byte} (h : encode i = op :: operands) :
    opcodeLength op = operands.length + 1 := by
  have length := length_encode i
  rw [Instr.opcode, h] at length
  exact length.symm

/-- The first instruction of a list that holds all its bytes. -/
theorem decodeBytes_of_length_le {op : Byte} {rest : List Byte} (h : opcodeLength op ≤ rest.length + 1) :
    decodeBytes (op :: rest) =
      .ok (decode op (rest.getD 0 0) (rest.getD 1 0), rest.drop (opcodeLength op - 1)) :=
  if_neg (Nat.not_lt.mpr h)

section
variable {op : Byte}

theorem decodeBytes_oneByte {i : Instr} (enc : encode i = [op]) (dec : ∀ b1 b2, decode op b1 b2 = i)
    (rest : List Byte) : decodeBytes (encode i ++ rest) = .ok (i, rest) := by
  have length : opcodeLength op = 1 := opcodeLength_of_encode enc
  rw [enc, List.singleton_append, decodeBytes_of_length_le (by omega), dec, length]
  rfl

theorem decodeBytes_twoBytes {f : Byte → Instr} (enc : ∀ v, encode (f v) = [op, v])
    (dec : ∀ b1 b2, decode op b1 b2 = f b1) (v : Byte) (rest : List Byte) :
    decodeBytes (encode (f v) ++ rest) = .ok (f v, rest) := by
  have length : opcodeLength op = 2 := opcodeLength_of_encode (enc v)
  rw [enc, List.cons_append, decodeBytes_of_length_le (by simp [length]), dec, length]
  rfl

theorem decodeBytes_threeBytes {f : Word → Instr} (enc : ∀ w, encode (f w) = [op, loByte w, hiByte w])
    (dec : ∀ b1 b2, decode op b1 b2 = f (joinBytes b2 b1)) (w : Word) (rest : List Byte) :
    decodeBytes (encode (f w) ++ rest) = .ok (f w, rest) := by
  have length : opcodeLength op = 3 := opcodeLength_of_encode (enc w)
  have operand : decode op (loByte w) (hiByte w) = f w := by rw [dec, joinBytes_hi_lo]
  rw [enc, List.cons_append, decodeBytes_of_length_le (by simp [length]), length]
  exact congrArg (fun i => Except.ok (i, rest)) operand

end

theorem encode_aluImm (op : AluOp) (v : Byte) : encode (Instr.aluImm op v) = [0b11#2 ++ op.code ++ 0b110#3, v] := by
  cases op <;> rfl

theorem decodeBytes_nopForms {i : Instr} (h : i ∈ Instr.nopForms) (rest : List Byte) :
    decodeBytes (encode i ++ rest) = .ok (i, rest) := by
  simp only [Instr.nopForms, List.mem_cons, List.not_mem_nil, or_false] at h
  rcases h with rfl | rfl | rfl | rfl | rfl | rfl | rfl | rfl <;>
    exact decodeBytes_oneByte rfl (fun _ _ => rfl) rest

theorem decodeBytes_jmpForms {k : Word} {i : Instr} (h : i ∈ Instr.jmpForms k) (rest : List Byte) :
    decodeBytes (encode i ++ rest) = .ok (i, rest) := by
  simp only [Instr.jmpForms, List.mem_cons, List.not_mem_nil, or_false] at h
  rcases h with rfl | rfl
  · exact decodeBytes_threeBytes (f := .jmp) (fun _ => rfl) (fun _ _ => rfl) k rest
  · exact decodeBytes_threeBytes (f := .jmpCB) (fun _ => rfl) (fun _ _ => rfl) k rest

theorem decodeBytes_callForms {k : Word} {i : Instr} (h : i ∈ Instr.callForms k) (rest : List Byte) :
    decodeBytes (encode i ++ rest) = .ok (i, rest) := by
  simp only [Instr.callForms, List.mem_cons, List.not_mem_nil, or_false] at h
  rcases h with rfl | rfl | rfl | rfl
  · exact decodeBytes_threeBytes (f := .call) (fun _ => rfl) (fun _ _ => rfl) k rest
  · exact decodeBytes_threeBytes (f := .callDD) (fun _ => rfl) (fun _ _ => rfl) k rest
  · exact decodeBytes_threeBytes (f := .callED) (fun _ => rfl) (fun _ _ => rfl) k rest
  · exact decodeBytes_threeBytes (f := .callFD) (fun _ => rfl) (fun _ _ => rfl) k rest

theorem decodeBytes_retForms {i : Instr} (h : i ∈ Instr.retForms) (rest : List Byte) :
    decodeBytes (encode i ++ rest) = .ok (i, rest) := by
  simp only [Instr.retForms, List.mem_cons, List.not_mem_nil, or_false] at h
  rcases h with rfl | rfl <;> exact decodeBytes_oneByte rfl (fun _ _ => rfl) rest

/-- Settles O4: each family has one format, its encoding and what the decoder reads at its opcode byte are the laws of
the two functions by the fields of the family. -/
theorem decodeUndoesEncode : Obligations.DecodeUndoesEncode := by
  intro i rest
  cases i using Instr.byFamily with
  | movRR dst src => exact decodeBytes_oneByte (encode_movRR dst src) (decode_movRR dst src) rest
  | movRM dst => exact decodeBytes_oneByte (encode_movRM dst) (decode_movRM dst) rest
  | movMR src => exact decodeBytes_oneByte (encode_movMR src) (decode_movMR src) rest
  | alu op o => exact decodeBytes_oneByte (encode_alu op o) (decode_alu op o) rest
  | inrR r => exact decodeBytes_oneByte (encode_inrR r) (decode_inrR r) rest
  | dcrR r => exact decodeBytes_oneByte (encode_dcrR r) (decode_dcrR r) rest
  | inx p => exact decodeBytes_oneByte (encode_inx p) (decode_inx p) rest
  | dcx p => exact decodeBytes_oneByte (encode_dcx p) (decode_dcx p) rest
  | dad p => exact decodeBytes_oneByte (encode_dad p) (decode_dad p) rest
  | rcc k => exact decodeBytes_oneByte (encode_rcc k) (decode_rcc k) rest
  | rst n => exact decodeBytes_oneByte (encode_rst n) (decode_rst n) rest
  | push p => exact decodeBytes_oneByte (encode_push p) (decode_push p) rest
  | pop p => exact decodeBytes_oneByte (encode_pop p) (decode_pop p) rest
  | nopForms i h => exact decodeBytes_nopForms h rest
  | retForms i h => exact decodeBytes_retForms h rest
  | mviR r v => exact decodeBytes_twoBytes (encode_mviR r) (decode_mviR r) v rest
  | mviM v => exact decodeBytes_twoBytes (f := .mviM) (fun _ => rfl) (fun _ _ => rfl) v rest
  | aluImm op v => exact decodeBytes_twoBytes (encode_aluImm op) (decode_aluImm op) v rest
  | inPort p => exact decodeBytes_twoBytes (f := .inPort) (fun _ => rfl) (fun _ _ => rfl) p rest
  | outPort p => exact decodeBytes_twoBytes (f := .outPort) (fun _ => rfl) (fun _ _ => rfl) p rest
  | lxi p w => exact decodeBytes_threeBytes (encode_lxi p) (decode_lxi p) w rest
  | lda k => exact decodeBytes_threeBytes (f := .lda) (fun _ => rfl) (fun _ _ => rfl) k rest
  | sta k => exact decodeBytes_threeBytes (f := .sta) (fun _ => rfl) (fun _ _ => rfl) k rest
  | lhld k => exact decodeBytes_threeBytes (f := .lhld) (fun _ => rfl) (fun _ _ => rfl) k rest
  | shld k => exact decodeBytes_threeBytes (f := .shld) (fun _ => rfl) (fun _ _ => rfl) k rest
  | jcc cond k => exact decodeBytes_threeBytes (encode_jcc cond) (decode_jcc cond) k rest
  | ccc cond k => exact decodeBytes_threeBytes (encode_ccc cond) (decode_ccc cond) k rest
  | jmpForms k i h => exact decodeBytes_jmpForms h rest
  | callForms k i h => exact decodeBytes_callForms h rest
  | _ => exact decodeBytes_oneByte rfl (fun _ _ => rfl) rest

/-! ### Every byte an instruction (R90), and the sequences that are one (R92) -/

/-- The bytes of the instruction read at an opcode byte, the word operand as the word it was read as. -/
theorem encode_decode_eq_ite (op b1 b2 : Byte) :
    encode (decode op b1 b2) =
      if opcodeLength op = 3 then [op, loByte (joinBytes b2 b1), hiByte (joinBytes b2 b1)]
      else [op, b1].take (opcodeLength op) := by
  obtain ⟨n, hn, rfl⟩ : ∃ n < 256, op = BitVec.ofNat 8 n := ⟨op.toNat, op.isLt, by simp⟩
  interval_cases n <;> rfl

theorem opcodeLength_bounds (op : Byte) : 1 ≤ opcodeLength op ∧ opcodeLength op ≤ 3 := by
  unfold opcodeLength
  split_ifs <;> decide

theorem encode_decode (op b1 b2 : Byte) : encode (decode op b1 b2) = [op, b1, b2].take (opcodeLength op) := by
  have ⟨_, bound⟩ := opcodeLength_bounds op
  rw [encode_decode_eq_ite]
  split_ifs with three
  · rw [wordOperand_joinBytes, three]
    rfl
  · have prefixLength : opcodeLength op ≤ [op, b1].length := by simp; omega
    exact (List.take_append_of_le_length (l₂ := [b2]) prefixLength).symm

theorem bytesWellFormed_iff (bytes : List Byte) :
    bytesWellFormed bytes = true ↔ bytes ≠ [] ∧ bytes.length = opcodeLength (bytes.headD 0) := by
  simp only [bytesWellFormed, hasOpcode, hasOperands, hasNoMore, Bool.and_eq_true, Bool.not_eq_true',
    List.isEmpty_eq_false_iff, decide_eq_true_eq, and_assoc]
  exact and_congr_right fun _ => by omega

theorem bytesWellFormed_encode (i : Instr) : bytesWellFormed (encode i) = true := by
  have length := length_encode i
  have ⟨nonempty, _⟩ := opcodeLength_bounds i.opcode
  exact (bytesWellFormed_iff _).mpr ⟨List.ne_nil_of_length_pos (by omega), length⟩

/-- A list of at most two bytes is read back from its first two places. -/
theorem take_getD_getD {rest : List Byte} (h : rest.length ≤ 2) :
    [rest.getD 0 0, rest.getD 1 0].take rest.length = rest := by
  match rest, h with
  | [], _ => rfl
  | [_], _ => rfl
  | [_, _], _ => rfl

theorem encode_decode_of_wellFormed {op : Byte} {rest : List Byte} (h : rest.length + 1 = opcodeLength op) :
    encode (decode op (rest.getD 0 0) (rest.getD 1 0)) = op :: rest := by
  have ⟨_, bound⟩ := opcodeLength_bounds op
  rw [encode_decode, ← h, List.take_succ_cons, take_getD_getD (by omega)]

/-- Settles O5: the encoder undoes the decoder, and a sequence of the length its opcode byte asks for encodes what is
read from it. -/
theorem everyByteDecodesWithoutLoss : Obligations.EveryByteDecodesWithoutLoss := by
  refine ⟨encode_decode, fun bytes => ⟨?decodes, ?encodes⟩⟩
  case decodes =>
    rw [bytesWellFormed_iff]
    rintro ⟨nonempty, length⟩
    obtain ⟨op, rest, rfl⟩ := List.exists_cons_of_ne_nil nonempty
    exact ⟨_, encode_decode_of_wellFormed length⟩
  case encodes =>
    rintro ⟨i, rfl⟩
    exact bytesWellFormed_encode i

/-- Settles O3: each word by evaluating the decoder on it, the bytes past its length unread. -/
theorem wordsFromTheSpecDecode : Obligations.WordsFromTheSpecDecode :=
  fun _ _ => ⟨rfl, rfl, rfl, rfl, rfl, rfl, rfl, rfl, rfl, rfl, rfl, rfl, rfl, rfl, rfl, rfl⟩

/-! ### The instruction at PC, read from the three bytes there (R240) -/

theorem decodeBytes_three (op b1 b2 : Byte) :
    decodeBytes [op, b1, b2] = .ok (decode op b1 b2, [b1, b2].drop (opcodeLength op - 1)) := by
  have ⟨_, bound⟩ := opcodeLength_bounds op
  exact decodeBytes_of_length_le bound

section
variable {s : State} {i : Instr} {rest : List Byte}

theorem fetched_of_decodeBytes
    (h : decodeBytes [s.byteAt s.pc, s.byteAt (s.pc + 1), s.byteAt (s.pc + 2)] = .ok (i, rest)) : s.fetched = i := by
  rw [decodeBytes_three] at h
  exact congrArg Prod.fst (Except.ok.inj h)

theorem interpret_of_decodeBytes (running : s.halted = false)
    (h : decodeBytes [s.byteAt s.pc, s.byteAt (s.pc + 1), s.byteAt (s.pc + 2)] = .ok (i, rest)) :
    interpret s = exec i { s with pc := s.pc + BitVec.ofNat 16 (encode i).length } := by
  rw [interpret_of_not_halted running, ← fetched_of_decodeBytes h, ← s.pastInstr_pc_eq_add_length]
  rfl

theorem reportedCycles_of_halted (h : s.halted = true) : reportedCycles s = 0 := if_pos h

theorem reportedCycles_of_not_halted (h : s.halted = false) : reportedCycles s = cyclesOf (s.byteAt s.pc) :=
  if_neg (ne_true_of_eq_false h)

end

/-- Settles O10: the two branches of the interpreter, the running one at the instruction its three bytes decode to. -/
theorem interpreterStepRunsTheInstructionAtPc : Obligations.InterpreterStepRunsTheInstructionAtPc := by
  intro s
  refine ⟨fun halted => ⟨interpret_of_halted halted, reportedCycles_of_halted halted⟩, fun running => ⟨?run, ?cycles⟩,
    exists_interpret_eq_next s⟩
  case run => exact fun i rest => interpret_of_decodeBytes running
  case cycles => exact reportedCycles_of_not_halted running

end Sys2Proof.Machine
end

section
/-! PROOFS. What the flags say (00_scope.md R12, 10_state.md R30, R33) and the consequences for compare, subtraction and
decimal addition (41_alu8.md R123, R124, 43_accumulator.md section 1). -/

namespace Sys2Proof.Machine

/-! ### Sign, Zero and Parity as numbers (R12) -/

theorem toNat_getLsbD (v : Byte) (k : Nat) : (v.getLsbD k).toNat = v.toNat / 2 ^ k % 2 := by
  rw [← BitVec.testBit_toNat, Nat.toNat_testBit]

theorem signOf_eq (v : Byte) : signOf v = decide (128 ≤ v.toNat) := by
  have byte := v.isLt
  rw [signOf, bitSeven_eq]
  exact decide_eq_decide.mpr (by omega)

theorem zeroOf_eq_true_iff (v : Byte) : zeroOf v = true ↔ v = 0 := beq_iff_eq

theorem zeroOf_eq (v : Byte) : zeroOf v = decide (v.toNat = 0) := by
  rw [Bool.eq_iff_iff, zeroOf_eq_true_iff, decide_eq_true_eq, ← BitVec.toNat_inj]
  rfl

theorem countP_eq_sum_toNat {α : Type} (test : α → Bool) (xs : List α) :
    xs.countP test = (xs.map fun x => (test x).toNat).sum := by
  induction xs with
  | nil => rfl
  | cons x xs ih =>
    rw [List.countP_cons, ih, List.map_cons, List.sum_cons, Nat.add_comm]
    cases test x <;> rfl

theorem onesCount_eq (v : Byte) :
    onesCount v = v.toNat % 2 + v.toNat / 2 % 2 + v.toNat / 4 % 2 + v.toNat / 8 % 2 + v.toNat / 16 % 2 +
      v.toNat / 32 % 2 + v.toNat / 64 % 2 + v.toNat / 128 := by
  have byte := v.isLt
  have topBit : v.toNat / 128 % 2 = v.toNat / 128 := by omega
  have bits : List.range 8 = [0, 1, 2, 3, 4, 5, 6, 7] := rfl
  simp only [onesCount, countP_eq_sum_toNat, toNat_getLsbD, bits, List.map_cons, List.map_nil, List.sum_cons,
    List.sum_nil, pow_zero, Nat.div_one, add_assoc, add_zero, Nat.reducePow, topBit]

theorem parityOf_eq (v : Byte) :
    parityOf v = decide ((v.toNat % 2 + v.toNat / 2 % 2 + v.toNat / 4 % 2 + v.toNat / 8 % 2 + v.toNat / 16 % 2 +
      v.toNat / 32 % 2 + v.toNat / 64 % 2 + v.toNat / 128) % 2 = 0) := by
  rw [← onesCount_eq]
  rfl

/-! ### The flag byte packed and unpacked (R33) -/

theorem Flags.ofByte_toByte (f : Flags) : Flags.ofByte f.toByte = f := by
  obtain ⟨s, z, ac, p, cy⟩ := f
  cases s <;> cases z <;> cases ac <;> cases p <;> cases cy <;> rfl

theorem Flags.toByte_reserved (f : Flags) :
    f.toByte.getLsbD 1 = true ∧ f.toByte.getLsbD 3 = false ∧ f.toByte.getLsbD 5 = false := by
  obtain ⟨s, z, ac, p, cy⟩ := f
  cases s <;> cases z <;> cases ac <;> cases p <;> cases cy <;> exact ⟨rfl, rfl, rfl⟩

/-- Packing unpacked flags keeps the five flag bits, since unpacking again gives the same flags, and fixes the three
others. -/
theorem Flags.toByte_ofByte (v : Byte) : (Flags.ofByte v).toByte = (v &&& 0xD5) ||| 0x02 := by
  obtain ⟨one, three, five⟩ := (Flags.ofByte v).toByte_reserved
  have kept := (Flags.ofByte v).ofByte_toByte
  have zero : (Flags.ofByte v).toByte.getLsbD 0 = v.getLsbD 0 := congrArg Flags.cy kept
  have two : (Flags.ofByte v).toByte.getLsbD 2 = v.getLsbD 2 := congrArg Flags.p kept
  have four : (Flags.ofByte v).toByte.getLsbD 4 = v.getLsbD 4 := congrArg Flags.ac kept
  have six : (Flags.ofByte v).toByte.getLsbD 6 = v.getLsbD 6 := congrArg Flags.z kept
  have seven : (Flags.ofByte v).toByte.getLsbD 7 = v.getLsbD 7 := congrArg Flags.s kept
  have flagBit (b : Bool) : b = (b && true || false) := by rw [Bool.and_true, Bool.or_false]
  have fixedBit (b c : Bool) : c = (b && false || c) := by rw [Bool.and_false, Bool.false_or]
  apply BitVec.eq_of_getLsbD_eq
  intro k hk
  rw [BitVec.getLsbD_or, BitVec.getLsbD_and]
  interval_cases k
  exacts [zero.trans (flagBit _), one.trans (fixedBit _ true), two.trans (flagBit _), three.trans (fixedBit _ false),
    four.trans (flagBit _), five.trans (fixedBit _ false), six.trans (flagBit _), seven.trans (flagBit _)]

/-- Settles O20: Sign, Zero and Parity by the numbers of the byte's bits, the conditions by their codes, the flag byte
by its bits. -/
theorem flagsDescribeTestAndPack : Obligations.FlagsDescribeTestAndPack := by
  refine ⟨fun v => ⟨signOf_eq v, zeroOf_eq v, parityOf_eq v, fun _ _ => rfl⟩, fun f k => ?conditions,
    fun f => ⟨f.toNat_toByte, f.ofByte_toByte⟩, fun v => ⟨rfl, Flags.toByte_ofByte v⟩⟩
  case conditions => cases k <;> rfl

/-! ### Compare (R124) -/

theorem accumulate_cmp_orders (s : State) (v : Byte) :
    ((s.accumulate .cmp v).flags.z = true ↔ s.a = v) ∧ ((s.accumulate .cmp v).flags.cy = true ↔ s.a.toNat < v.toNat) ∧
      (s.accumulate .cmp v).a = s.a := by
  rw [accumulate_cmp_flags]
  refine ⟨(zeroOf_eq_true_iff _).trans ⟨fun zero => ?_, fun equal => ?_⟩, decide_eq_true_iff, rfl⟩
  · bv_omega
  · rw [equal, BitVec.sub_self]
    rfl

/-- A byte less itself is 0 with no borrow, out of bit 3 or at all. -/
theorem subFlags_self (v : Byte) :
    subFlags v v false = { s := false, z := true, ac := true, p := true, cy := false } := by
  have ac := subFlags_ac v v false
  have auxCarry : (subFlags v v false).ac = true := by simpa using ac
  have carry : (subFlags v v false).cy = false := decide_eq_false (by simp)
  have result : subFlags v v false = szpFlags 0 (subFlags v v false).ac (subFlags v v false).cy := by
    rw [subFlags, sub8_false, BitVec.sub_self]
    rfl
  rw [result, auxCarry, carry]
  rfl

/-- Settles O24: every form of the compare by its flags, and the difference of A with itself. -/
theorem compareOrdersUnsigned : Obligations.CompareOrdersUnsigned := by
  refine fun s => ⟨fun o => ⟨_, exec_alu .cmp o s, accumulate_cmp_orders s _⟩,
    fun v => ⟨_, exec_aluImm .cmp v s, accumulate_cmp_orders s v⟩, fun op hop => ⟨_, exec_alu op (.reg .a) s, ?self⟩⟩
  case self =>
    simp only [List.mem_cons, List.not_mem_nil, or_false] at hop
    rcases hop with rfl | rfl
    · exact ⟨subFlags_self s.a, (sub8_false s.a s.a).trans (BitVec.sub_self s.a)⟩
    · exact ⟨subFlags_self s.a, rfl⟩

/-! ### Subtraction as addition of the complement (R123) -/

theorem toNat_complement (y : Byte) : (255 - y).toNat = 255 - y.toNat := by bv_omega

theorem toNat_not_bool (b : Bool) : (!b).toNat = 1 - b.toNat := by cases b <;> rfl

theorem sub8_eq_add8_complement (x y : Byte) (bin : Bool) : sub8 x y bin = add8 x (255 - y) (!bin) := by
  apply BitVec.eq_of_toNat_eq
  have difference := toNat_sub8 x y bin
  have := y.isLt
  have := bin.toNat_le
  rw [toNat_add8, toNat_complement, toNat_not_bool]
  omega

theorem subFlags_cy_eq (x y : Byte) (bin : Bool) : (subFlags x y bin).cy = !(addFlags x (255 - y) (!bin)).cy := by
  have := y.isLt
  have := bin.toNat_le
  change decide (x.toNat < y.toNat + bin.toNat) = !decide (x.toNat + (255 - y).toNat + (!bin).toNat > 255)
  rw [toNat_complement, toNat_not_bool, ← decide_not]
  exact decide_eq_decide.mpr (by omega)

theorem subFlags_ac_eq (x y : Byte) (bin : Bool) : (subFlags x y bin).ac = (addFlags x (255 - y) (!bin)).ac := by
  change decide (x.toNat % 16 + (255 - y.toNat) % 16 + (1 - bin.toNat) > 15) =
    decide (x.toNat % 16 + (255 - y).toNat % 16 + (!bin).toNat > 15)
  rw [toNat_complement, toNat_not_bool]

/-- Settles O26: the results are one number modulo 256, so Sign, Zero and Parity agree; the two carries by their exact
sums. -/
theorem subtractionIsComplementAddition : Obligations.SubtractionIsComplementAddition := by
  intro x y bin
  have result := sub8_eq_add8_complement x y bin
  exact ⟨result, subFlags_ac_eq x y bin, subFlags_cy_eq x y bin, congrArg signOf result, congrArg zeroOf result,
    congrArg parityOf result⟩

/-! ### Decimal addition (43_accumulator.md section 1) -/

/-- Six added at the units when they exceed 9, and at the tens when the sum exceeds 99, turn a sum of the nibbles modulo
256 into the two low decimal digits. -/
theorem decimalCorrection {tens units : Nat} (ht : tens ≤ 18) (hu : units ≤ 19) :
    (if 10 * tens + units > 99 then
        (if units > 9 then (16 * tens + units) % 256 + 6 else (16 * tens + units) % 256) + 0x60
      else if units > 9 then (16 * tens + units) % 256 + 6 else (16 * tens + units) % 256) % 256 =
      16 * ((10 * tens + units) / 10 % 10) + (10 * tens + units) % 10 := by
  split_ifs with hundred carry carry
  · rw [show (10 * tens + units) / 10 % 10 = tens - 9 by omega]
    omega
  · rw [show (10 * tens + units) / 10 % 10 = tens - 10 by omega]
    omega
  · rw [show (10 * tens + units) / 10 % 10 = tens + 1 by omega]
    omega
  · rw [show (10 * tens + units) / 10 % 10 = tens by omega]
    omega

section
variable {x y : Byte} {x1 x0 y1 y0 : Nat} {cin : Bool} (hx1 : x1 ≤ 9) (hx0 : x0 ≤ 9) (hy1 : y1 ≤ 9) (hy0 : y0 ≤ 9)
  (hx : x.toNat = 16 * x1 + x0) (hy : y.toNat = 16 * y1 + y0)
include hx hy

theorem toNat_add8_digits : (add8 x y cin).toNat = (16 * (x1 + y1) + (x0 + y0 + cin.toNat)) % 256 := by
  rw [toNat_add8, hx, hy]
  congr 1
  omega

theorem addFlags_cy_digits : (addFlags x y cin).cy = decide (16 * (x1 + y1) + (x0 + y0 + cin.toNat) > 255) :=
  decide_eq_decide.mpr (by omega)

include hx0 hy0

theorem addFlags_ac_digits : (addFlags x y cin).ac = decide (x0 + y0 + cin.toNat > 15) :=
  decide_eq_decide.mpr (by omega)

/-- The low step is made exactly when the low digits with the carry-in exceed 9: past 15 AuxCarry says so, up to 15 the
low nibble does. -/
theorem daaLow_digits : daaLow (add8 x y cin) (addFlags x y cin).ac = decide (x0 + y0 + cin.toNat > 9) := by
  have := cin.toNat_le
  rw [daaLow, addFlags_ac_digits hx0 hy0 hx hy, toNat_add8_digits hx hy, ← Bool.decide_or]
  exact decide_eq_decide.mpr (by omega)

/-- The high step is made exactly when the decimal sum exceeds 99: past 255 Carry says so, up to 255 the comparison
does. -/
theorem daaHigh_digits :
    daaHigh Config.daaMaskBeforeCompare (add8 x y cin) (addFlags x y cin).ac (addFlags x y cin).cy =
      decide (10 * (x1 + y1) + (x0 + y0 + cin.toNat) > 99) := by
  have := cin.toNat_le
  rw [daaHigh_eq, daaSum_eq, daaLow_digits hx0 hy0 hx hy, addFlags_cy_digits hx hy, toNat_add8_digits hx hy,
    ← Bool.decide_or]
  refine decide_eq_decide.mpr ?_
  simp only [decide_eq_true_eq]
  split_ifs <;> omega

include hx1 hy1

/-- The two corrections leave the two low digits of the decimal sum, each in its nibble. -/
theorem toNat_daaResult_digits :
    (daaResult Config.daaMaskBeforeCompare (add8 x y cin) (addFlags x y cin).ac (addFlags x y cin).cy).toNat =
      16 * ((10 * (x1 + y1) + (x0 + y0 + cin.toNat)) / 10 % 10) +
        (10 * (x1 + y1) + (x0 + y0 + cin.toNat)) % 10 := by
  have := cin.toNat_le
  rw [toNat_daaResult, daaHigh_digits hx0 hy0 hx hy, daaSum_eq, daaLow_digits hx0 hy0 hx hy,
    toNat_add8_digits hx hy]
  simp only [decide_eq_true_eq]
  exact decimalCorrection (by omega) (by omega)

end

/-- Settles O32: the digits left by the two corrections, and the high step as the decimal carry. -/
theorem daaAdjustsADecimalSum : Obligations.DaaAdjustsADecimalSum := by
  intro s op hop i v x1 x0 y1 y0 form hx1 hx0 hy1 hy0 hx hy
  obtain ⟨cin, carryIn, ha, hflags⟩ := accumulate_addition hop s v
  have result := toNat_daaResult_digits (cin := cin) hx1 hx0 hy1 hy0 hx hy
  have carry := (daaFlags_cy Config.daaMaskBeforeCompare (add8 s.a v cin) _ _).trans
    (daaHigh_digits (cin := cin) hx0 hy0 hx hy)
  rw [← ha, ← hflags] at result carry
  rw [← carryIn]
  refine ⟨_, _, exec_aluForm form, exec_daa _, ?tens, ?units, ?sum, ?carry⟩
  case tens => rw [State.decimalAdjust, result]; omega
  case units => rw [State.decimalAdjust, result]; omega
  case sum => rw [State.decimalAdjust, result]; omega
  case carry => exact carry.trans (decide_eq_decide.mpr (by omega))

end Sys2Proof.Machine
end

section
/-! PROOFS. What an instruction may write besides registers, memory, flags, PC and SP (10_state.md R34 to R41): every
instruction has a frame, and which parts that frame frees tells which instruction it is. -/

namespace Sys2Proof.Machine

/-- The frame `c` frees `halted`, IE and the shifter only for the instructions that write them (R34, R35, R38, R39). -/
structure Changes.FreesOnlyFor (c : Changes) (i : Instr) : Prop where
  halted : c.halted = true → i = .hlt
  ie : c.ie = true → i = .ei ∨ i = .di
  shiftData : c.shiftData = true → i = .outPort 4
  shiftOffset : c.shiftOffset = true → i = .outPort 2

/-- Some frame of the run of `i` from `s` to `t` frees the control parts only for the instructions that write them. -/
def HasControlFrame (i : Instr) (s t : State) : Prop := ∃ c : Changes, Frame c s t ∧ c.FreesOnlyFor i

/-- A frame that frees no control part. -/
theorem HasControlFrame.of_frame {regs : List Reg} {bytes : List Word} {flags pc sp : Bool} {i : Instr} {s t : State}
    (h : Frame { regs := regs, bytes := bytes, flags := flags, pc := pc, sp := sp } s t) : HasControlFrame i s t :=
  ⟨_, h, nofun, nofun, nofun, nofun⟩

theorem HasControlFrame.setPair (i : Instr) (s : State) (p : Pair) (w : Word) :
    HasControlFrame i s (s.setPair p w) := by
  cases p with
  | rp q => exact .of_frame (frame_setRp s q w)
  | sp => exact .of_frame (frame_setPair s .sp w)

theorem frame_halted (s : State) (halt : Bool) : Frame { halted := true } s { s with halted := halt } where
  regs r _ := by cases r <;> rfl
  bytes _ _ := rfl
  flags _ := rfl
  pc _ := rfl
  sp _ := rfl
  halted named := nomatch named
  ie _ := rfl
  shiftData _ := rfl
  shiftOffset _ := rfl
  port1 := rfl
  port2 := rfl
  intSched := rfl
  cycleAcc := rfl
  half := rfl
  script := rfl

theorem HasControlFrame.portWrite (p : Byte) (s : State) : HasControlFrame (.outPort p) s (s.portWrite p s.a) := by
  refine ⟨_, frame_portWrite s p s.a, nofun, nofun, ?shiftData, ?shiftOffset⟩
  case shiftData => exact fun named => congrArg Instr.outPort (of_decide_eq_true named)
  case shiftOffset => exact fun named => congrArg Instr.outPort (of_decide_eq_true named)

/-- Every instruction, family by family: the frame of the operation that answers it. -/
theorem hasControlFrame_of_exec (i : Instr) (s t : State) (h : exec i s = .next t) : HasControlFrame i s t := by
  revert i t
  apply exec_cases
  case movRR => exact fun dst src => .of_frame (frame_setReg s dst _)
  case movRM => exact fun dst => .of_frame (frame_setReg s dst _)
  case movMR => exact fun src => .of_frame (frame_storeByte s _ _)
  case mviR => exact fun r v => .of_frame (frame_setReg s r v)
  case mviM => exact fun v => .of_frame (frame_storeByte s _ v)
  case lxi => exact fun p w => .setPair _ s p w
  case lda => exact fun k => .of_frame (frame_a s _)
  case sta => exact fun k => .of_frame (frame_storeByte s k _)
  case lhld => exact fun k => .of_frame (frame_setRp s .hl _)
  case shld => exact fun k => .of_frame (frame_storeWord s k _)
  case ldaxB => exact .of_frame (frame_a s _)
  case ldaxD => exact .of_frame (frame_a s _)
  case staxB => exact .of_frame (frame_storeByte s _ _)
  case staxD => exact .of_frame (frame_storeByte s _ _)
  case xchg => exact Host.Outcome.next.inj (exec_xchg s) ▸ .of_frame (frame_setRp_setRp s .hl .de _ _)
  case xthl => exact .of_frame (frame_storeWord_setRp s s.sp _ .hl _)
  case sphl => exact .of_frame (frame_setPair s .sp _)
  case alu => exact fun op o => .of_frame (frame_accumulate s op _)
  case aluImm => exact fun op v => .of_frame (frame_accumulate s op v)
  case inrR => exact fun r => .of_frame (frame_increment s (.reg r))
  case inrM => exact .of_frame (frame_increment s .m)
  case dcrR => exact fun r => .of_frame (frame_decrement s (.reg r))
  case dcrM => exact .of_frame (frame_decrement s .m)
  case inx => exact fun p => .setPair _ s p _
  case dcx => exact fun p => .setPair _ s p _
  case dad => exact fun p => .of_frame (frame_addToHl s _)
  case daa => exact .of_frame (frame_decimalAdjust s)
  case rlc => exact .of_frame (frame_rotateLeft s)
  case rrc => exact .of_frame (frame_rotateRight s)
  case ral => exact .of_frame (frame_rotateLeftCarry s)
  case rar => exact .of_frame (frame_rotateRightCarry s)
  case cma => exact .of_frame (frame_a s _)
  case stc => exact .of_frame (frame_setCarry s _)
  case cmc => exact .of_frame (frame_setCarry s _)
  case jmpForms => exact fun k i _ => .of_frame (frame_jump s k)
  case jcc => exact fun cond k => .of_frame (frame_jumpIf s cond k)
  case pchl => exact .of_frame (frame_jump s _)
  case callForms => exact fun k i _ => .of_frame (frame_call s k)
  case ccc => exact fun cond k => .of_frame (frame_callIf s cond k)
  case retForms => exact fun i _ => .of_frame (frame_ret s)
  case rcc => exact fun cond => .of_frame (frame_retIf s cond)
  case rst => exact fun n => .of_frame (frame_call s _)
  case push => exact fun p => .of_frame (frame_push16 s _)
  case pushPsw => exact .of_frame (frame_push16 s _)
  case pop => exact fun p => .of_frame (frame_setRp s p _).withPop
  case popPsw => exact .of_frame (frame_setPsw s _).withPop
  case inPort => exact fun p => .of_frame (frame_a s _)
  case outPort => exact fun p => .portWrite p s
  case nopForms => exact fun i _ => .of_frame (Frame.refl {} s)
  case hlt => exact ⟨_, frame_halted s true, fun _ => rfl, nofun, nofun, nofun⟩
  case ei => exact ⟨_, frame_ie s true, nofun, fun _ => .inl rfl, nofun, nofun⟩
  case di => exact ⟨_, frame_ie s false, nofun, fun _ => .inr rfl, nofun, nofun⟩

/-- Settles O59: no frame frees the input ports or the scheduler, and one that frees the shifter is that of an OUT to
its port. -/
theorem devicesChangeOnlyByOut : Obligations.DevicesChangeOnlyByOut := by
  intro i s t h
  obtain ⟨c, frame, only⟩ := hasControlFrame_of_exec i s t h
  exact ⟨frame.port1, frame.port2, frame.intSched, frame.cycleAcc, frame.half, frame.script,
    fun other => frame.shiftData (Bool.eq_false_iff.mpr (mt only.shiftData other)),
    fun other => frame.shiftOffset (Bool.eq_false_iff.mpr (mt only.shiftOffset other))⟩

section
variable {i : Instr} {s t : State} (h : exec i s = .next t)
include h

theorem exec_keeps_halted (other : i ≠ .hlt) : t.halted = s.halted := by
  obtain ⟨c, frame, only⟩ := hasControlFrame_of_exec i s t h
  exact frame.halted (Bool.eq_false_iff.mpr (mt only.halted other))

theorem exec_keeps_ie (notEi : i ≠ .ei) (notDi : i ≠ .di) : t.ie = s.ie := by
  obtain ⟨c, frame, only⟩ := hasControlFrame_of_exec i s t h
  exact frame.ie (Bool.eq_false_iff.mpr fun named => (only.ie named).elim notEi notDi)

theorem exec_keeps_scheduler :
    t.intSched = s.intSched ∧ t.cycleAcc = s.cycleAcc ∧ t.half = s.half ∧ t.script = s.script := by
  obtain ⟨c, frame, -⟩ := hasControlFrame_of_exec i s t h
  exact ⟨frame.intSched, frame.cycleAcc, frame.half, frame.script⟩

end

end Sys2Proof.Machine
end

section
/-! PROOFS. AuxCarry influences DAA and PUSH PSW alone (10_state.md R29): every other operation commutes with a change
of AuxCarry, or overwrites it with a value that does not depend on it. -/

namespace Sys2Proof.Machine

/-- The same state but for AuxCarry. -/
def State.withAc (s : State) (ac : Bool) : State := { s with flags := { s.flags with ac := ac } }

/-! ### What no access sees of AuxCarry -/

section
variable (s : State) (x : Bool)

@[simp] theorem State.withAc_reg (r : Reg) : (s.withAc x).reg r = s.reg r := by cases r <;> rfl

@[simp] theorem State.withAc_byteAt (k : Word) : (s.withAc x).byteAt k = s.byteAt k := rfl

@[simp] theorem State.withAc_rp (p : RegPair) : (s.withAc x).rp p = s.rp p := by cases p <;> rfl

@[simp] theorem State.withAc_pair (p : Pair) : (s.withAc x).pair p = s.pair p := by
  rcases p with (_ | _ | _) | _ <;> rfl

@[simp] theorem State.withAc_src8 (o : Operand) : (s.withAc x).src8 o = s.src8 o := by
  rcases o with (_ | _ | _ | _ | _ | _ | _) | _ <;> rfl

@[simp] theorem State.withAc_holds (cond : Cond) : (s.withAc x).flags.holds cond = s.flags.holds cond := by
  cases cond <;> rfl

/-! ### What commutes with a change of AuxCarry -/

theorem State.withAc_setReg (r : Reg) (v : Byte) : (s.withAc x).setReg r v = (s.setReg r v).withAc x := by
  cases r <;> rfl

theorem State.withAc_setRp (p : RegPair) (w : Word) : (s.withAc x).setRp p w = (s.setRp p w).withAc x := by
  cases p <;> rfl

theorem State.withAc_setPair (p : Pair) (w : Word) : (s.withAc x).setPair p w = (s.setPair p w).withAc x := by
  rcases p with (_ | _ | _) | _ <;> rfl

theorem State.withAc_setDst8 (o : Operand) (v : Byte) : (s.withAc x).setDst8 o v = (s.setDst8 o v).withAc x := by
  rcases o with (_ | _ | _ | _ | _ | _ | _) | _ <;> rfl

theorem State.withAc_jumpIf (cond : Cond) (k : Word) : (s.withAc x).jumpIf cond k = (s.jumpIf cond k).withAc x := by
  unfold State.jumpIf
  rw [State.withAc_holds]
  split <;> rfl

theorem State.withAc_callIf (cond : Cond) (k : Word) : (s.withAc x).callIf cond k = (s.callIf cond k).withAc x := by
  unfold State.callIf
  rw [State.withAc_holds]
  split <;> rfl

theorem State.withAc_retIf (cond : Cond) : (s.withAc x).retIf cond = (s.retIf cond).withAc x := by
  unfold State.retIf
  rw [State.withAc_holds]
  split <;> rfl

theorem State.withAc_portWrite (p v : Byte) : (s.withAc x).portWrite p v = (s.portWrite p v).withAc x := by
  unfold State.portWrite
  split <;> rfl

/-! ### What overwrites AuxCarry -/

theorem State.withAc_accumulate (op : AluOp) (v : Byte) : (s.withAc x).accumulate op v = s.accumulate op v := by
  cases op <;> rfl

theorem State.withAc_increment (o : Operand) : (s.withAc x).increment o = s.increment o := by
  simp only [State.increment, State.withAc_src8, State.withAc_setDst8]
  rfl

theorem State.withAc_decrement (o : Operand) : (s.withAc x).decrement o = s.decrement o := by
  simp only [State.decrement, State.withAc_src8, State.withAc_setDst8]
  rfl

end

/-! ### The instructions -/

/-- `i` runs from two states that differ in AuxCarry alone to two such states. -/
def IgnoresAc (i : Instr) : Prop :=
  ∀ (s : State) (x : Bool), ∃ t y, exec i s = .next t ∧ exec i (s.withAc x) = .next (t.withAc y)

section
variable {i : Instr} {f : State → State} (answers : ∀ s, exec i s = .next (f s))
include answers

theorem ignoresAc_of_commutes (commutes : ∀ s x, f (s.withAc x) = (f s).withAc x) : IgnoresAc i :=
  fun s x => ⟨f s, x, answers s, (answers _).trans (congrArg _ (commutes s x))⟩

theorem ignoresAc_of_overwrites (overwrites : ∀ s x, f (s.withAc x) = f s) : IgnoresAc i :=
  fun s x => ⟨f s, (f s).flags.ac, answers s, (answers _).trans (congrArg _ (overwrites s x))⟩

end

/-- The families, each by its operation. -/
theorem ignoresAc (i : Instr) (notDaa : i ≠ .daa) (notPushPsw : i ≠ .pushPsw) : IgnoresAc i := by
  cases i using Instr.byFamily with
  | daa => exact absurd rfl notDaa
  | pushPsw => exact absurd rfl notPushPsw
  | alu op o => exact ignoresAc_of_overwrites (exec_alu op o) fun s x => by simp [State.withAc_accumulate]
  | aluImm op v => exact ignoresAc_of_overwrites (exec_aluImm op v) fun s x => s.withAc_accumulate x op v
  | inrR r => exact ignoresAc_of_overwrites (exec_inrR r) fun s x => s.withAc_increment x (.reg r)
  | inrM => exact ignoresAc_of_overwrites exec_inrM fun s x => s.withAc_increment x .m
  | dcrR r => exact ignoresAc_of_overwrites (exec_dcrR r) fun s x => s.withAc_decrement x (.reg r)
  | dcrM => exact ignoresAc_of_overwrites exec_dcrM fun s x => s.withAc_decrement x .m
  | popPsw => exact ignoresAc_of_overwrites exec_popPsw fun _ _ => rfl
  | movRR dst src =>
    exact ignoresAc_of_commutes (exec_movRR dst src) fun s x => by simp [State.movRegs, State.withAc_setReg]
  | movRM dst => exact ignoresAc_of_commutes (exec_movRM dst) fun s x => s.withAc_setReg x dst _
  | movMR src =>
    exact ignoresAc_of_commutes (exec_movMR src) fun s x => by simp only [State.movToMem, State.withAc_reg]; rfl
  | mviR r v => exact ignoresAc_of_commutes (exec_mviR r v) fun s x => s.withAc_setReg x r v
  | lxi p w => exact ignoresAc_of_commutes (exec_lxi p w) fun s x => s.withAc_setPair x p w
  | inx p =>
    exact ignoresAc_of_commutes (exec_inx p) fun s x => by rw [State.withAc_pair, State.withAc_setPair]
  | dcx p =>
    exact ignoresAc_of_commutes (exec_dcx p) fun s x => by rw [State.withAc_pair, State.withAc_setPair]
  | dad p => exact ignoresAc_of_commutes (exec_dad p) fun s x => by rw [State.withAc_pair]; rfl
  | jmpForms k i form => exact ignoresAc_of_commutes (exec_jmpForms k i form) fun _ _ => rfl
  | jcc cond k => exact ignoresAc_of_commutes (exec_jcc cond k) fun s x => s.withAc_jumpIf x cond k
  | callForms k i form => exact ignoresAc_of_commutes (exec_callForms k i form) fun _ _ => rfl
  | ccc cond k => exact ignoresAc_of_commutes (exec_ccc cond k) fun s x => s.withAc_callIf x cond k
  | retForms i form => exact ignoresAc_of_commutes (exec_retForms i form) fun _ _ => rfl
  | rcc cond => exact ignoresAc_of_commutes (exec_rcc cond) fun s x => s.withAc_retIf x cond
  | rst n => exact ignoresAc_of_commutes (exec_rst n) fun _ _ => rfl
  | push p => exact ignoresAc_of_commutes (exec_push p) fun s x => by rw [State.withAc_rp]; rfl
  | pop p =>
    exact ignoresAc_of_commutes (exec_pop p) fun s x => congrArg State.pop16 (s.withAc_setRp x p s.stackTop)
  | outPort p => exact ignoresAc_of_commutes (exec_outPort p) fun s x => s.withAc_portWrite x p s.a
  | nopForms i form => exact ignoresAc_of_commutes (exec_nopForms i form) fun _ _ => rfl
  | _ => exact fun s x => ⟨_, x, rfl, rfl⟩

/-- Settles O60: the state reached from the changed one is the state reached, with an AuxCarry of its own. -/
theorem auxCarryIsReadOnlyByDaaAndPushPsw : Obligations.AuxCarryIsReadOnlyByDaaAndPushPsw := by
  intro i s t x notDaa notPushPsw h
  obtain ⟨t', y, executed, changed⟩ := ignoresAc i notDaa notPushPsw s x
  obtain rfl := Host.Outcome.next.inj (executed.symm.trans h)
  exact ⟨_, changed, rfl⟩

end Sys2Proof.Machine
end

section
/-! PROOFS. The cycle table (70_reset_and_hazards.md R284 to R286). The opcodes with a memory variant are those of MOV
and of the ALU; each of their groups is cut at its split, and a table within the constraints leaves room for a cut. -/

namespace Sys2Proof.Machine

/-! ### The opcodes of MOV and of the ALU, by their fields (R84, R88) -/

theorem opcode_movRR (x y : Reg) : (Instr.movRR x y).opcode = 0b01#2 ++ x.code ++ y.code :=
  congrArg (·.headD 0) (encode_movRR x y)

theorem opcode_movRM (x : Reg) : (Instr.movRM x).opcode = 0b01#2 ++ x.code ++ 0b110#3 :=
  congrArg (·.headD 0) (encode_movRM x)

theorem opcode_movMR (y : Reg) : (Instr.movMR y).opcode = 0b01#2 ++ 0b110#3 ++ y.code := by cases y <;> rfl

theorem opcode_alu (op : AluOp) (o : Operand) : (Instr.alu op o).opcode = 0b10#2 ++ op.code ++ o.code :=
  congrArg (·.headD 0) (encode_alu op o)

theorem exists_operand_code (n : BitVec 3) : ∃ o : Operand, o.code = n := by
  rcases restart_cases n with rfl | rfl | rfl | rfl | rfl | rfl | rfl | rfl
  exacts [⟨.reg .b, rfl⟩, ⟨.reg .c, rfl⟩, ⟨.reg .d, rfl⟩, ⟨.reg .e, rfl⟩, ⟨.reg .h, rfl⟩, ⟨.reg .l, rfl⟩, ⟨.m, rfl⟩,
    ⟨.reg .a, rfl⟩]

theorem exists_aluOp_code (n : BitVec 3) : ∃ op : AluOp, op.code = n := by
  rcases restart_cases n with rfl | rfl | rfl | rfl | rfl | rfl | rfl | rfl
  exacts [⟨.add, rfl⟩, ⟨.adc, rfl⟩, ⟨.sub, rfl⟩, ⟨.sbb, rfl⟩, ⟨.ana, rfl⟩, ⟨.xra, rfl⟩, ⟨.ora, rfl⟩, ⟨.cmp, rfl⟩]

theorem exists_opcode_fields (op : Byte) : ∃ (q : BitVec 2) (x y : BitVec 3), op = q ++ x ++ y := by
  refine ⟨op.extractLsb' 6 2, op.extractLsb' 3 3, op.extractLsb' 0 3, ?_⟩
  apply BitVec.eq_of_getLsbD_eq
  intro k hk
  simp only [BitVec.getLsbD_append, BitVec.getLsbD_extractLsb']
  interval_cases k <;> rfl

theorem hasMemoryVariant_fields (q : BitVec 2) (x y : BitVec 3) :
    hasMemoryVariant (q ++ x ++ y) = ((q == 1 && !(x == 6 && y == 6)) || q == 2) := by
  revert q x y
  decide

/-- An opcode with a memory variant is of MOV or of the ALU. -/
theorem memoryVariant_cases {op : Byte} (h : hasMemoryVariant op = true) :
    (∃ x y, op = (Instr.movRR x y).opcode) ∨ (∃ x, op = (Instr.movRM x).opcode) ∨
      (∃ y, op = (Instr.movMR y).opcode) ∨ ∃ k o, op = (Instr.alu k o).opcode := by
  obtain ⟨q, x, y, rfl⟩ := exists_opcode_fields op
  obtain ⟨o, rfl⟩ := exists_operand_code y
  rw [hasMemoryVariant_fields, Bool.or_eq_true, Bool.and_eq_true, beq_iff_eq, beq_iff_eq] at h
  rcases h with ⟨rfl, notHlt⟩ | rfl
  · obtain ⟨dst, rfl⟩ := exists_operand_code x
    cases dst with
    | reg dst =>
      cases o with
      | reg src => exact .inl ⟨dst, src, (opcode_movRR dst src).symm⟩
      | m => exact .inr (.inl ⟨dst, (opcode_movRM dst).symm⟩)
    | m =>
      cases o with
      | reg src => exact .inr (.inr (.inl ⟨src, (opcode_movMR src).symm⟩))
      | m => exact absurd notHlt (by decide)
  · obtain ⟨k, rfl⟩ := exists_aluOp_code x
    exact .inr (.inr (.inr ⟨k, o, (opcode_alu k o).symm⟩))

/-! ### The group of such an opcode, and its side of the group's split -/

/-- The opcode is in group `g`, and on the memory side or on the register side of it. -/
def InGroup (g : Nat) (memory : Bool) (op : Byte) : Prop :=
  hasMemoryVariant op = true ∧ costGroup op = g ∧ usesM op = memory ∧ aliasTarget op = op

theorem inGroup_movRR (x y : Reg) : InGroup 0 false (Instr.movRR x y).opcode := by
  cases x <;> cases y <;> exact ⟨rfl, rfl, rfl, rfl⟩

theorem inGroup_movRM (x : Reg) : InGroup 0 true (Instr.movRM x).opcode := by
  cases x <;> exact ⟨rfl, rfl, rfl, rfl⟩

theorem inGroup_movMR (y : Reg) : InGroup 0 true (Instr.movMR y).opcode := by
  cases y <;> exact ⟨rfl, rfl, rfl, rfl⟩

theorem inGroup_alu_reg (k : AluOp) (r : Reg) : InGroup (k.code.toNat + 1) false (Instr.alu k (.reg r)).opcode := by
  cases k <;> cases r <;> exact ⟨rfl, rfl, rfl, rfl⟩

theorem inGroup_alu_m (k : AluOp) : InGroup (k.code.toNat + 1) true (Instr.alu k .m).opcode := by
  cases k <;> exact ⟨rfl, rfl, rfl, rfl⟩

/-! ### A table built from any two functions keeps the constraints -/

theorem between_bounds {lo hi : Nat} (h : lo ≤ hi) (n : Nat) : lo ≤ between lo hi n ∧ between lo hi n ≤ hi := by
  have := Nat.mod_lt n (show 0 < hi - lo + 1 by omega)
  unfold between
  omega

theorem between_sub {lo hi v : Nat} (hlo : lo ≤ v) (hhi : v ≤ hi) : between lo hi (v - lo) = v := by
  rw [between, Nat.mod_eq_of_lt (by omega)]
  omega

section
variable (free : Byte → Nat) (split : Nat → Nat)

theorem costOf_of_memoryVariant {op : Byte} (h : hasMemoryVariant op = true) :
    costOf free split op =
      if usesM op then between (between 4 17 (split (costGroup op)) + 1) 18 (free op)
      else between 4 (between 4 17 (split (costGroup op))) (free op) := by
  have notNop : op ≠ 0x00 := by rintro rfl; cases h
  have notCall : op ≠ 0xCD := by rintro rfl; cases h
  have notInrM : op ≠ 0x34 := by rintro rfl; cases h
  rw [costOf, if_neg notNop, if_neg notCall, if_neg notInrM, if_pos h]

theorem costOf_bounds (op : Byte) : 4 ≤ costOf free split op ∧ costOf free split op ≤ 18 := by
  obtain ⟨low, high⟩ := between_bounds (show 4 ≤ 17 by decide) (split (costGroup op))
  have register := between_bounds low (free op)
  have memory := between_bounds (show _ + 1 ≤ 18 from Nat.succ_le_succ high) (free op)
  have plain := between_bounds (show 4 ≤ 18 by decide) (free op)
  unfold costOf
  split_ifs <;> omega

variable {free split} {g : Nat} {op : Byte}

/-- A register variant costs at most the split of its group. -/
theorem cycleTable_le_split (h : InGroup g false op) : cycleTable free split op ≤ between 4 17 (split g) := by
  obtain ⟨variant, rfl, side, noAlias⟩ := h
  rw [cycleTable, noAlias, costOf_of_memoryVariant free split variant, side]
  exact (between_bounds (between_bounds (by decide) _).1 _).2

/-- A memory variant costs more than the split of its group. -/
theorem split_lt_cycleTable (h : InGroup g true op) : between 4 17 (split g) < cycleTable free split op := by
  obtain ⟨variant, rfl, side, noAlias⟩ := h
  rw [cycleTable, noAlias, costOf_of_memoryVariant free split variant, side]
  exact (between_bounds (Nat.succ_le_succ (between_bounds (by decide) _).2) _).1

theorem cycleTable_register_lt_memory {other : Byte} (h : InGroup g false op) (k : InGroup g true other) :
    cycleTable free split op < cycleTable free split other :=
  (cycleTable_le_split h).trans_lt (split_lt_cycleTable k)

end

theorem cycleTableOk_cycleTable (free : Byte → Nat) (split : Nat → Nat) : CycleTableOk (cycleTable free split) where
  bounds op := costOf_bounds free split (aliasTarget op)
  nop := rfl
  call := rfl
  inrM := rfl
  movFrom dst x y := cycleTable_register_lt_memory (inGroup_movRR x y) (inGroup_movRM dst)
  movTo src x y := cycleTable_register_lt_memory (inGroup_movRR x y) (inGroup_movMR src)
  alu k r := cycleTable_register_lt_memory (inGroup_alu_reg k r) (inGroup_alu_m k)
  nopAlias op h := congrArg (costOf free split) (if_pos h)
  jmpAlias := rfl
  retAlias := rfl
  callAlias op h := by
    simp only [List.mem_cons, List.not_mem_nil, or_false] at h
    rcases h with rfl | rfl | rfl <;> rfl

/-! ### A table that keeps the constraints is built from two functions -/

section
variable {t : Byte → Nat} (ok : CycleTableOk t)
include ok

theorem CycleTableOk.aliasTarget_cost (op : Byte) : t (aliasTarget op) = t op := by
  unfold aliasTarget
  split_ifs with nop jmp ret call
  · exact (ok.nopAlias op nop).symm
  · exact jmp ▸ ok.jmpAlias.symm
  · exact ret ▸ ok.retAlias.symm
  · exact (ok.callAlias op call).symm
  · rfl

/-- The costs of MOV leave a number between the register variants and the memory variants. -/
theorem CycleTableOk.exists_movCut :
    ∃ n, (∀ x y, t (Instr.movRR x y).opcode ≤ n) ∧ (∀ x, n < t (Instr.movRM x).opcode) ∧
      ∀ y, n < t (Instr.movMR y).opcode := by
  obtain ⟨n, above, below⟩ := exists_between_of_forall_le
    (s := Set.range fun regs : Reg × Reg => t (Instr.movRR regs.1 regs.2).opcode)
    (t := Set.range fun reg : Reg ⊕ Reg => t (reg.elim Instr.movRM Instr.movMR).opcode - 1)
    ⟨_, (.b, .b), rfl⟩ ⟨_, .inl .b, rfl⟩ (by
      rintro _ ⟨⟨x, y⟩, rfl⟩ _ ⟨z | z, rfl⟩
      · exact Nat.le_sub_one_of_lt (ok.movFrom z x y)
      · exact Nat.le_sub_one_of_lt (ok.movTo z x y))
  have positive (op : Byte) : 1 ≤ t op := le_trans (by decide) (ok.bounds op).1
  refine ⟨n, fun x y => above ⟨(x, y), rfl⟩, fun x => ?_, fun y => ?_⟩
  · exact Nat.lt_of_le_sub_one (positive _) (below ⟨.inl x, rfl⟩)
  · exact Nat.lt_of_le_sub_one (positive _) (below ⟨.inr y, rfl⟩)

end

/-- The cut of each group: that of MOV as given, that of an ALU operation just below its memory variant. -/
def groupCut (t : Byte → Nat) (movCut : Nat) : Nat → Nat
  | 0 => movCut
  | k + 1 => t (0b10#2 ++ BitVec.ofNat 3 k ++ 0b110#3) - 1

theorem groupCut_alu (t : Byte → Nat) (movCut : Nat) (k : AluOp) :
    groupCut t movCut (k.code.toNat + 1) = t (Instr.alu k .m).opcode - 1 := by
  rw [groupCut, opcode_alu, BitVec.ofNat_toNat, BitVec.setWidth_eq]
  rfl

/-- Each cost is on its side of the cut, and the cut is inside the bounds of a split. -/
def CutsAt (t : Byte → Nat) (cut : Nat → Nat) : Prop :=
  ∀ op, hasMemoryVariant op = true →
    4 ≤ cut (costGroup op) ∧ cut (costGroup op) ≤ 17 ∧
      if usesM op then cut (costGroup op) < t op else t op ≤ cut (costGroup op)

theorem CycleTableOk.exists_cuts {t : Byte → Nat} (ok : CycleTableOk t) : ∃ cut, CutsAt t cut := by
  obtain ⟨movCut, above, belowFrom, belowTo⟩ := ok.exists_movCut
  have movLow : 4 ≤ movCut := (ok.bounds _).1.trans (above .b .b)
  have movHigh : movCut ≤ 17 := Nat.le_of_lt_succ ((belowFrom .b).trans_le (ok.bounds _).2)
  refine ⟨groupCut t movCut, fun op variant => ?_⟩
  rcases memoryVariant_cases variant with ⟨x, y, rfl⟩ | ⟨x, rfl⟩ | ⟨y, rfl⟩ | ⟨k, o, rfl⟩
  · obtain ⟨-, group, side, -⟩ := inGroup_movRR x y
    rw [group, side]
    exact ⟨movLow, movHigh, above x y⟩
  · obtain ⟨-, group, side, -⟩ := inGroup_movRM x
    rw [group, side]
    exact ⟨movLow, movHigh, belowFrom x⟩
  · obtain ⟨-, group, side, -⟩ := inGroup_movMR y
    rw [group, side]
    exact ⟨movLow, movHigh, belowTo y⟩
  · have high := (ok.bounds (Instr.alu k .m).opcode).2
    have low := (ok.bounds (Instr.alu k (.reg .b)).opcode).1
    have cheaper := ok.alu k .b
    cases o with
    | reg r =>
      obtain ⟨-, group, side, -⟩ := inGroup_alu_reg k r
      rw [group, side, groupCut_alu]
      exact ⟨by omega, by omega, Nat.le_sub_one_of_lt (ok.alu k r)⟩
    | m =>
      obtain ⟨-, group, side, -⟩ := inGroup_alu_m k
      rw [group, side, groupCut_alu]
      exact ⟨by omega, by omega, Nat.sub_one_lt (by omega)⟩

/-- How far a cost lies above its lower bound, the groups cut at `cut`. -/
def offsetAbove (t : Byte → Nat) (cut : Nat → Nat) (op : Byte) : Nat :=
  if hasMemoryVariant op && usesM op then t op - (cut (costGroup op) + 1) else t op - 4

theorem CycleTableOk.costOf_eq {t : Byte → Nat} (ok : CycleTableOk t) {cut : Nat → Nat} (cuts : CutsAt t cut)
    (op : Byte) : costOf (offsetAbove t cut) (fun g => cut g - 4) op = t op := by
  have ⟨low, high⟩ := ok.bounds op
  cases variant : hasMemoryVariant op with
  | true =>
    obtain ⟨cutLow, cutHigh, side⟩ := cuts op variant
    rw [costOf_of_memoryVariant _ _ variant, between_sub cutLow cutHigh, offsetAbove, variant, Bool.true_and]
    split_ifs at side ⊢ with memory
    · exact between_sub side high
    · exact between_sub low side
  | false =>
    rw [costOf, offsetAbove, variant, Bool.false_and, if_neg Bool.false_ne_true, if_neg Bool.false_ne_true]
    split_ifs with nop call inrM
    · exact nop ▸ ok.nop.symm
    · exact call ▸ ok.call.symm
    · exact inrM ▸ ok.inrM.symm
    · exact between_sub low high

theorem CycleTableOk.exists_cycleTable_eq {t : Byte → Nat} (ok : CycleTableOk t) :
    ∃ free split, cycleTable free split = t := by
  obtain ⟨cut, cuts⟩ := ok.exists_cuts
  refine ⟨offsetAbove t cut, fun g => cut g - 4, funext fun op => ?_⟩
  rw [cycleTable, ok.costOf_eq cuts, ok.aliasTarget_cost]

/-! ### The suggested table (R285) -/

theorem suggestedCycles_movRR (x y : Reg) : suggestedCycles (Instr.movRR x y).opcode = 5 := by
  cases x <;> cases y <;> rfl

theorem suggestedCycles_movRM (x : Reg) : suggestedCycles (Instr.movRM x).opcode = 7 := by cases x <;> rfl

theorem suggestedCycles_movMR (y : Reg) : suggestedCycles (Instr.movMR y).opcode = 7 := by cases y <;> rfl

theorem suggestedCycles_alu_reg (k : AluOp) (r : Reg) : suggestedCycles (Instr.alu k (.reg r)).opcode = 4 := by
  cases k <;> cases r <;> rfl

theorem suggestedCycles_alu_m (k : AluOp) : suggestedCycles (Instr.alu k .m).opcode = 7 := by cases k <;> rfl

theorem cycleTableOk_suggestedCycles : CycleTableOk suggestedCycles where
  bounds := by decide
  nop := rfl
  call := rfl
  inrM := rfl
  movFrom dst x y := by rw [suggestedCycles_movRR, suggestedCycles_movRM]; decide
  movTo src x y := by rw [suggestedCycles_movRR, suggestedCycles_movMR]; decide
  alu k r := by rw [suggestedCycles_alu_reg, suggestedCycles_alu_m]; decide
  nopAlias := by decide
  jmpAlias := rfl
  retAlias := rfl
  callAlias := by decide

/-- Settles O55: any two functions give a table cut by its splits; the two functions of a given table are its cuts and
what lies above them. -/
theorem cycleTableIsAnyAllowedTable : Obligations.CycleTableIsAnyAllowedTable :=
  ⟨cycleTableOk_cycleTable _ _, cycleTableOk_cycleTable, fun _ ok => ok.exists_cycleTable_eq, fun _ => rfl,
    cycleTableOk_suggestedCycles⟩

end Sys2Proof.Machine
end

section
/-! PROOFS. The turns of a step (60_exceptions.md R240, R246, R247): the machine's own turn is the scheduler's request
or the interpreter's step with its cycles accounted for, and a host turn is its action. -/

namespace Sys2Proof.Machine

/-! ### The interpreter leaves the scheduler alone -/

theorem interpret_keeps_scheduler {s t : State} (h : interpret s = .next t) :
    t.intSched = s.intSched ∧ t.cycleAcc = s.cycleAcc ∧ t.half = s.half ∧ t.script = s.script := by
  cases halted : s.halted with
  | true =>
    obtain rfl := Host.Outcome.next.inj ((interpret_of_halted halted).symm.trans h)
    exact ⟨rfl, rfl, rfl, rfl⟩
  | false => exact exec_keeps_scheduler (s := s.pastInstr) ((interpret_of_not_halted halted).symm.trans h)

theorem reportedCycles_le (s : State) : reportedCycles s ≤ 18 := by
  unfold reportedCycles
  split
  · decide
  · exact (costOf_bounds _ _ _).2

/-! ### The scheduler (R247) -/

section
variable {s t : State}

theorem State.halfFrameOver_iff :
    s.halfFrameOver = true ↔ s.intSched = .frame ∧ Config.halfFrameBudget ≤ s.cycleAcc := by
  simp [State.halfFrameOver]

theorem State.halfFrameOver_eq_false_iff :
    s.halfFrameOver = false ↔ (s.intSched = .frame → s.cycleAcc < Config.halfFrameBudget) := by
  rw [← Bool.not_eq_true, State.halfFrameOver_iff, not_and, Nat.not_le]

theorem State.account_of_frame (h : s.intSched = .frame) (cycles : Nat) :
    s.account cycles = { s with cycleAcc := s.cycleAcc + cycles } := if_pos h

theorem State.account_of_anyBoundary (h : s.intSched = .anyBoundary) (cycles : Nat) : s.account cycles = s :=
  if_neg (by rw [h]; decide)

/-- The machine's own turn: the request at the end of a half-frame, or a step of the interpreter inside one. -/
theorem machineTurn_cases (h : machineTurn s = .next t) :
    (s.halfFrameOver = true ∧ t = s.endHalfFrame) ∨
      (s.halfFrameOver = false ∧ ∃ u, interpret s = .next u ∧ t = u.account (reportedCycles s)) := by
  cases ended : s.halfFrameOver with
  | true => exact .inl ⟨rfl, Host.Outcome.next.inj (h.symm.trans (machineTurn_of_halfFrameOver ended))⟩
  | false =>
    obtain ⟨u, hu⟩ := exists_interpret_eq_next s
    exact .inr ⟨rfl, u, hu, Host.Outcome.next.inj (h.symm.trans (machineTurn_of_interpret ended hu))⟩

/-- A step is the machine's own turn, with or without a turn taken off the schedule, or an action of the host. -/
theorem step_cases (h : step s = .next t) :
    (s.script = [] ∧ machineTurn s = .next t) ∨ ∃ rest,
      (s.script = .machine :: rest ∧ machineTurn { s with script := rest } = .next t) ∨
      (∃ v, s.script = .request v :: rest ∧ t = { s with script := rest }.requestInterrupt v) ∨
      (∃ input on, s.script = .setInput input on :: rest ∧ t = { s with script := rest }.setInput input on) ∨
      (s.script = .resetCpu :: rest ∧ t = { s with script := rest }.resetCpu) := by
  cases script : s.script with
  | nil => exact .inl ⟨rfl, (step_of_script_nil script).symm.trans h⟩
  | cons turn rest =>
    refine .inr ⟨rest, ?_⟩
    cases turn with
    | machine => exact .inl ⟨rfl, (step_of_script_machine script).symm.trans h⟩
    | request v =>
      exact .inr (.inl ⟨v, rfl, Host.Outcome.next.inj (h.symm.trans (step_of_script_request script))⟩)
    | setInput input on =>
      exact .inr (.inr (.inl ⟨input, on, rfl, Host.Outcome.next.inj (h.symm.trans (step_of_script_setInput script))⟩))
    | resetCpu =>
      exact .inr (.inr (.inr ⟨rfl, Host.Outcome.next.inj (h.symm.trans (step_of_script_resetCpu script))⟩))

end

/-! ### A step of the machine's own turn (O11, O53, O54) -/

/-- Settles O11: inside a half-frame the turn is the interpreter's, which runs the decoded instruction, and only under
`frame` is its cost accounted for. -/
theorem stepRunsTheDecodedInstruction : Obligations.StepRunsTheDecodedInstruction := by
  intro s rest i more t script running inside decoded executed
  have turn : step s = machineTurn { s with script := rest } := by
    rcases script with ⟨empty, rfl⟩ | own
    · rw [step_of_script_nil empty, ← empty]
    · exact step_of_script_machine own
  have interpreted : interpret { s with script := rest } = .next t :=
    (interpret_of_decodeBytes (s := { s with script := rest }) running decoded).trans executed
  have cost : reportedCycles { s with script := rest } = cyclesOf (s.byteAt s.pc) :=
    reportedCycles_of_not_halted (s := { s with script := rest }) running
  have ⟨sched, _⟩ := interpret_keeps_scheduler interpreted
  have account : step s = .next (t.account (cyclesOf (s.byteAt s.pc))) := by
    rw [turn, ← cost]
    exact machineTurn_of_interpret (State.halfFrameOver_eq_false_iff.mpr inside) interpreted
  refine ⟨fun h => ?anyBoundary, fun h => ?frame⟩
  case anyBoundary => rw [account, State.account_of_anyBoundary (sched.trans h)]
  case frame => rw [account, State.account_of_frame (sched.trans h)]

/-- Settles O53: at the budget the turn is the request of the half that ends, below it the interpreter's step, which
leaves the scheduler to the accounting. -/
theorem frameSchedulerRequestsAtTheBudget : Obligations.FrameSchedulerRequestsAtTheBudget := by
  intro s frame empty
  rw [step_of_script_nil empty]
  refine ⟨fun reached => ?request, fun below => ?inside⟩
  case request =>
    rw [machineTurn_of_halfFrameOver (State.halfFrameOver_iff.mpr ⟨frame, reached⟩), State.endHalfFrame]
    exact ⟨fun first => by rw [first]; rfl, fun second => by rw [second]; rfl⟩
  case inside =>
    obtain ⟨t, interpreted⟩ := exists_interpret_eq_next s
    obtain ⟨sched, acc, half, -⟩ := interpret_keeps_scheduler interpreted
    refine ⟨t, interpreted, ?_, half⟩
    rw [machineTurn_of_interpret (State.halfFrameOver_eq_false_iff.mpr fun _ => below) interpreted,
      State.account_of_frame (sched.trans frame), acc]

/-- A halted interpreter adds no cycles, so inside a half-frame nothing changes. -/
theorem step_of_halted_inside {s : State} (frame : s.intSched = .frame) (empty : s.script = [])
    (halted : s.halted = true) (below : s.cycleAcc < Config.halfFrameBudget) : step s = .next s := by
  rw [step_of_script_nil empty,
    machineTurn_of_interpret (State.halfFrameOver_eq_false_iff.mpr fun _ => below) (interpret_of_halted halted),
    reportedCycles_of_halted halted, State.account_of_frame frame]
  rfl

theorem run_succ_of_step {s t : State} (n : Nat) (h : step s = .next t) :
    Sys2Proof.core.run (n + 1) s = Sys2Proof.core.run n t := by
  have stepped : Sys2Proof.core.step s = .next t := h
  simp only [Host.Core.run, stepped]

/-- Settles O54, by induction on the number of steps: each leaves the state as it was. -/
theorem haltUnderTheFrameSchedulerIsForever : Obligations.HaltUnderTheFrameSchedulerIsForever := by
  intro s n frame empty halted below
  induction n with
  | zero => rfl
  | succ n ih => exact (run_succ_of_step n (step_of_halted_inside frame empty halted below)).trans ih

/-! ### HLT and the control booleans over a step (O48, O58) -/

/-- `t` has the interpreter and the memory of `s`. -/
def SameInterpreter (s t : State) : Prop :=
  ∃ acc half port script, t = { s with cycleAcc := acc, half := half, port1 := port, script := script }

theorem sameInterpreter_account (s : State) (cycles : Nat) : SameInterpreter s (s.account cycles) := by
  unfold State.account
  split
  · exact ⟨_, _, _, _, rfl⟩
  · exact ⟨_, _, _, _, rfl⟩

section
variable {s t : State} (halted : s.halted = true) (disabled : s.ie = false)
include halted disabled

theorem machineTurn_of_stopped (h : machineTurn s = .next t) : SameInterpreter s t := by
  rcases machineTurn_cases h with ⟨-, rfl⟩ | ⟨-, u, interpreted, rfl⟩
  · rw [State.endHalfFrame, State.requestInterrupt_of_not_ie disabled]
    exact ⟨_, _, _, _, rfl⟩
  · obtain rfl := Host.Outcome.next.inj ((interpret_of_halted halted).symm.trans interpreted)
    exact sameInterpreter_account s _

/-- Stopped with IE clear, every turn but the host's reset leaves the interpreter. -/
theorem step_of_stopped (noReset : s.script.head? ≠ some .resetCpu) (h : step s = .next t) :
    SameInterpreter s t := by
  rcases step_cases h with ⟨-, turn⟩ | ⟨rest, ⟨-, turn⟩ | ⟨v, -, rfl⟩ | ⟨input, on, -, rfl⟩ | ⟨script, -⟩⟩
  · exact machineTurn_of_stopped halted disabled turn
  · have same : SameInterpreter { s with script := rest } t := machineTurn_of_stopped halted disabled turn
    obtain ⟨acc, half, port, script, rfl⟩ := same
    exact ⟨acc, half, port, script, rfl⟩
  · rw [State.requestInterrupt_of_not_ie (s := { s with script := rest }) disabled]
    exact ⟨_, _, _, _, rfl⟩
  · exact ⟨_, _, _, _, rfl⟩
  · exact absurd (congrArg List.head? script) noReset

end

/-- Settles O48: the effect of HLT by its frame, and the stop by the turns a step can take. -/
theorem hltStopsTheInterpreter : Obligations.HltStopsTheInterpreter := by
  refine ⟨rfl, fun s => ⟨_, rfl, rfl, frame_halted s true⟩, fun s t halted disabled noReset stepped => ?stopped⟩
  case stopped =>
    obtain ⟨acc, half, port, script, rfl⟩ := step_of_stopped halted disabled noReset stepped
    exact ⟨halted, disabled, rfl, rfl, rfl, rfl, fun r => by cases r <;> rfl⟩

theorem State.account_halted (s : State) (cycles : Nat) : (s.account cycles).halted = s.halted := by
  obtain ⟨_, _, _, _, same⟩ := sameInterpreter_account s cycles
  rw [same]

/-- A request never halts the interpreter. -/
theorem State.requestInterrupt_not_halted {s : State} (running : s.halted = false) (v : BitVec 3) :
    (s.requestInterrupt v).halted = false := by
  rcases requestInterrupt_cases s v with ⟨-, dropped⟩ | ⟨-, accepted⟩
  · rw [dropped, running]
  · rw [accepted]
    rfl

theorem opcodeByte_of_interpret_halts {s t : State} (running : s.halted = false) (h : interpret s = .next t)
    (halts : t.halted = true) : s.byteAt s.pc = 0x76 := by
  rw [interpret_of_not_halted running] at h
  have hlt : s.fetched = .hlt := by
    by_contra other
    have kept := exec_keeps_halted h other
    rw [halts, State.pastInstr_halted, running] at kept
    cases kept
  calc s.byteAt s.pc = s.fetched.opcode := (opcode_decode _ _ _).symm
    _ = 0x76 := by rw [hlt]; rfl

theorem opcodeByte_of_machineTurn_halts {s t : State} (running : s.halted = false) (h : machineTurn s = .next t)
    (halts : t.halted = true) : s.byteAt s.pc = 0x76 := by
  rcases machineTurn_cases h with ⟨-, rfl⟩ | ⟨-, u, interpreted, rfl⟩
  · exact absurd (State.requestInterrupt_not_halted running _) (ne_false_of_eq_true halts)
  · rw [State.account_halted] at halts
    exact opcodeByte_of_interpret_halts running interpreted halts

/-- Settles O58: an instruction by its frame; of the turns only the interpreter's own can set `halted`, and then by
the instruction whose opcode byte stands at PC. -/
theorem onlyHltHaltsOnlyEiDiEnable : Obligations.OnlyHltHaltsOnlyEiDiEnable := by
  refine ⟨fun i s t h => ⟨exec_keeps_halted h, exec_keeps_ie h⟩, fun s t stepped running halts => ?step⟩
  case step =>
    rcases step_cases stepped with ⟨-, turn⟩ | ⟨rest, ⟨-, turn⟩ | ⟨v, -, rfl⟩ | ⟨input, on, -, rfl⟩ | ⟨-, rfl⟩⟩
    · exact opcodeByte_of_machineTurn_halts running turn halts
    · exact opcodeByte_of_machineTurn_halts (s := { s with script := rest }) running turn halts
    · exact absurd (State.requestInterrupt_not_halted (s := { s with script := rest }) running v)
        (ne_false_of_eq_true halts)
    · exact absurd running (ne_false_of_eq_true halts)
    · exact absurd halts Bool.false_ne_true

/-! ### Host turns (O51) -/

theorem State.requestInterrupt_ie (s : State) (v : BitVec 3) : (s.requestInterrupt v).ie = false := by
  rcases requestInterrupt_cases s v with ⟨disabled, dropped⟩ | ⟨-, accepted⟩
  · rw [dropped, disabled]
  · rw [accepted]
    rfl

/-- Settles O51: a request leaves IE clear, so the next is dropped; a host turn by the law of the step that takes it. -/
theorem hostTurnsPerformTheirAction : Obligations.HostTurnsPerformTheirAction :=
  ⟨fun s v w => State.requestInterrupt_of_not_ie (s.requestInterrupt_ie v) w,
    fun _ _ => ⟨fun _ => step_of_script_request rfl, fun _ _ => step_of_script_setInput rfl,
      step_of_script_resetCpu rfl⟩⟩

end Sys2Proof.Machine
end

section
/-! PROOFS. The invariant (20_memory.md R50, 60_exceptions.md R247, R249): every instruction keeps the canonical form of
memory, only the turns write the scheduler, and a half-frame ends at most one instruction's cycles past its budget. -/

namespace Sys2Proof.Machine

/-! ### The canonical form of memory (20_memory.md R50) -/

theorem State.setPair_mem (s : State) (p : Pair) (w : Word) : (s.setPair p w).mem = s.mem := by
  cases p with
  | rp q => exact s.setRp_mem q w
  | sp => rfl

theorem State.accumulate_mem (s : State) (op : AluOp) (v : Byte) : (s.accumulate op v).mem = s.mem := by
  cases op <;> rfl

theorem State.jumpIf_mem (s : State) (cond : Cond) (k : Word) : (s.jumpIf cond k).mem = s.mem :=
  (apply_ite State.mem _ _ _).trans (ite_self _)

theorem State.retIf_mem (s : State) (cond : Cond) : (s.retIf cond).mem = s.mem :=
  (apply_ite State.mem _ _ _).trans (ite_self _)

theorem State.portWrite_mem (s : State) (p v : Byte) : (s.portWrite p v).mem = s.mem := by
  unfold State.portWrite
  split <;> rfl

theorem callIf_wf (s : State) (cond : Cond) (k : Word) (wf : Memory.wf s.mem) : Memory.wf (s.callIf cond k).mem := by
  unfold State.callIf
  split
  · exact push16_wf s s.pc wf
  · exact wf

/-- An operation that leaves memory keeps its canonical form. -/
theorem wf_of_mem_eq {s t : State} (same : t.mem = s.mem) (wf : Memory.wf s.mem) : Memory.wf t.mem := same ▸ wf

/-- Every instruction keeps the canonical form of memory: it is a byte store, a word store or a push, or it leaves
memory as it was. -/
theorem exec_keeps_wf {s : State} (wf : Memory.wf s.mem) (i : Instr) (t : State) (h : exec i s = .next t) :
    Memory.wf t.mem := by
  revert i t
  apply exec_cases
  case movMR => exact fun src => storeByte_wf s _ _ wf
  case mviM => exact fun v => storeByte_wf s _ v wf
  case sta => exact fun k => storeByte_wf s k _ wf
  case shld => exact fun k => storeWord_wf s k _ wf
  case staxB => exact storeByte_wf s _ _ wf
  case staxD => exact storeByte_wf s _ _ wf
  case xthl => exact storeWord_wf s _ _ wf
  case inrR => exact fun r => setDst8_wf s (.reg r) _ wf
  case inrM => exact setDst8_wf s .m _ wf
  case dcrR => exact fun r => setDst8_wf s (.reg r) _ wf
  case dcrM => exact setDst8_wf s .m _ wf
  case callForms => exact fun k i _ => push16_wf s _ wf
  case ccc => exact fun cond k => callIf_wf s cond k wf
  case rst => exact fun n => push16_wf s _ wf
  case push => exact fun p => push16_wf s _ wf
  case pushPsw => exact push16_wf s _ wf
  case movRR => exact fun dst src => wf_of_mem_eq (s.setReg_mem dst _) wf
  case movRM => exact fun dst => wf_of_mem_eq (s.setReg_mem dst _) wf
  case mviR => exact fun r v => wf_of_mem_eq (s.setReg_mem r v) wf
  case lxi => exact fun p w => wf_of_mem_eq (s.setPair_mem p w) wf
  case inx => exact fun p => wf_of_mem_eq (s.setPair_mem p _) wf
  case dcx => exact fun p => wf_of_mem_eq (s.setPair_mem p _) wf
  case alu => exact fun op o => wf_of_mem_eq (s.accumulate_mem op _) wf
  case aluImm => exact fun op v => wf_of_mem_eq (s.accumulate_mem op v) wf
  case jcc => exact fun cond k => wf_of_mem_eq (s.jumpIf_mem cond k) wf
  case rcc => exact fun cond => wf_of_mem_eq (s.retIf_mem cond) wf
  case pop => exact fun p => wf_of_mem_eq (s.setRp_mem p _) wf
  case outPort => exact fun p => wf_of_mem_eq (s.portWrite_mem p s.a) wf
  case nopForms => exact fun i _ => wf
  case jmpForms => exact fun k i _ => wf
  case retForms => exact fun i _ => wf
  case lda => exact fun k => wf
  case lhld => exact fun k => wf
  case dad => exact fun p => wf
  case inPort => exact fun p => wf
  all_goals exact wf

theorem interpret_keeps_wf {s t : State} (wf : Memory.wf s.mem) (h : interpret s = .next t) : Memory.wf t.mem := by
  cases halted : s.halted with
  | true => exact Host.Outcome.next.inj ((interpret_of_halted halted).symm.trans h) ▸ wf
  | false => exact exec_keeps_wf (s := s.pastInstr) wf _ t ((interpret_of_not_halted halted).symm.trans h)

/-! ### The scheduler under a request -/

/-- A request leaves the scheduler alone, accepted or dropped. -/
theorem requestInterrupt_keeps_scheduler (s : State) (v : BitVec 3) :
    (s.requestInterrupt v).intSched = s.intSched ∧ (s.requestInterrupt v).cycleAcc = s.cycleAcc ∧
      (s.requestInterrupt v).half = s.half ∧ (s.requestInterrupt v).script = s.script := by
  rcases requestInterrupt_cases s v with ⟨-, dropped⟩ | ⟨-, accepted⟩
  · rw [dropped]
    exact ⟨rfl, rfl, rfl, rfl⟩
  · rw [accepted]
    exact ⟨rfl, rfl, rfl, rfl⟩

/-! ### The invariant, turn by turn -/

section
variable {s t : State} (inv : s.Inv)
include inv

/-- The invariant speaks of memory and the scheduler alone. -/
theorem State.Inv.congr (wf : Memory.wf t.mem)
    (same : t.intSched = s.intSched ∧ t.cycleAcc = s.cycleAcc ∧ t.half = s.half ∧ t.script = s.script) : t.Inv := by
  obtain ⟨sched, acc, half, script⟩ := same
  exact ⟨wf, acc ▸ inv.budget, by rw [sched, acc, half]; exact inv.atRest, by rw [sched, script]; exact inv.requests⟩

theorem State.Inv.tail {turn : Turn} {rest : List Turn} (script : s.script = turn :: rest) :
    { s with script := rest }.Inv where
  memory := inv.memory
  budget := inv.budget
  atRest := inv.atRest
  requests frame v listed := inv.requests frame v (script ▸ List.mem_cons_of_mem turn listed)

theorem State.Inv.requestInterrupt (v : BitVec 3) : (s.requestInterrupt v).Inv :=
  inv.congr (requestInterrupt_wf s v inv.memory) (requestInterrupt_keeps_scheduler s v)

theorem State.Inv.endHalfFrame (frame : s.intSched = .frame) : s.endHalfFrame.Inv where
  memory := requestInterrupt_wf s _ inv.memory
  budget := Nat.zero_le _
  atRest rest := by
    have sched : s.endHalfFrame.intSched = s.intSched := (requestInterrupt_keeps_scheduler s _).1
    rw [sched, frame] at rest
    cases rest
  requests := (inv.requestInterrupt (halfVector s.half)).requests

/-- Fewer than 16667 cycles and at most 18 more are at most 16684 (R249). -/
theorem State.Inv.account {cycles : Nat} (inside : s.intSched = .frame → s.cycleAcc < Config.halfFrameBudget)
    (cost : cycles ≤ 18) : (s.account cycles).Inv := by
  cases sched : s.intSched with
  | anyBoundary =>
    rw [State.account_of_anyBoundary sched]
    exact inv
  | frame =>
    rw [State.account_of_frame sched]
    have below : s.cycleAcc < 16667 := inside sched
    exact ⟨inv.memory, show s.cycleAcc + cycles ≤ 16684 by omega, fun rest => (by cases sched.symm.trans rest),
      inv.requests⟩

theorem machineTurn_keeps_inv (h : machineTurn s = .next t) : t.Inv := by
  rcases machineTurn_cases h with ⟨ended, rfl⟩ | ⟨inside, u, interpreted, rfl⟩
  · exact inv.endHalfFrame (State.halfFrameOver_iff.mp ended).1
  · have kept := interpret_keeps_scheduler interpreted
    have ⟨sched, acc, _⟩ := kept
    refine (inv.congr (interpret_keeps_wf inv.memory interpreted) kept).account ?_ (reportedCycles_le s)
    rw [sched, acc]
    exact State.halfFrameOver_eq_false_iff.mp inside

end

/-! ### The obligations -/

/-- Settles O56: the invariant without the turn taken, then the turn: the machine's own by its two cases, a host turn as
its action. -/
theorem stepKeepsTheInvariant : Obligations.StepKeepsTheInvariant := by
  intro s t inv stepped
  rcases step_cases stepped with
    ⟨-, turn⟩ | ⟨rest, ⟨script, turn⟩ | ⟨v, script, rfl⟩ | ⟨input, on, script, rfl⟩ | ⟨script, rfl⟩⟩
  · exact machineTurn_keeps_inv inv turn
  · exact machineTurn_keeps_inv (inv.tail script) turn
  · exact (inv.tail script).requestInterrupt v
  · exact (inv.tail script).congr inv.memory ⟨rfl, rfl, rfl, rfl⟩
  · exact (inv.tail script).congr inv.memory ⟨rfl, rfl, rfl, rfl⟩

/-- Settles O57: at reset memory is empty, at launch it is made in canonical form, and the accumulator is 0 at both. -/
theorem resetAndLaunchMeetTheInvariant : Obligations.ResetAndLaunchMeetTheInvariant := by
  refine ⟨⟨Memory.empty_wf, Nat.zero_le _, fun _ => ⟨rfl, rfl⟩, nofun⟩, fun p turns suits => ?launch⟩
  case launch => exact ⟨Memory.ofBytes_wf _ _ le_rfl, Nat.zero_le _, fun _ => ⟨rfl, rfl⟩, suits⟩

end Sys2Proof.Machine
end

section
/-! PROOFS. Round trips: a return after a call or an interrupt (44_control.md R181, 60_exceptions.md R243, R251, R254),
a pop after a push and a push after a pop (45_stack.md R206), a read of the shifter after it was fed (46_io_ports.md
R219). Two changes in a row change what either does; a part given back is taken out of what may have changed. -/

namespace Sys2Proof.Machine

/-! ### Two changes in a row, and parts given back -/

/-- What either of two changes may change. -/
def Changes.union (c d : Changes) : Changes where
  regs := c.regs ++ d.regs
  bytes := c.bytes ++ d.bytes
  flags := c.flags || d.flags
  pc := c.pc || d.pc
  sp := c.sp || d.sp
  halted := c.halted || d.halted
  ie := c.ie || d.ie
  shiftData := c.shiftData || d.shiftData
  shiftOffset := c.shiftOffset || d.shiftOffset

theorem Frame.union {c d : Changes} {s t u : State} (h : Frame c s t) (k : Frame d t u) :
    Frame (c.union d) s u where
  regs r e := (k.regs r (mt (List.mem_append_right _) e)).trans (h.regs r (mt (List.mem_append_left _) e))
  bytes x e := (k.bytes x (mt (List.mem_append_right _) e)).trans (h.bytes x (mt (List.mem_append_left _) e))
  flags e := (k.flags (Bool.or_eq_false_iff.mp e).2).trans (h.flags (Bool.or_eq_false_iff.mp e).1)
  pc e := (k.pc (Bool.or_eq_false_iff.mp e).2).trans (h.pc (Bool.or_eq_false_iff.mp e).1)
  sp e := (k.sp (Bool.or_eq_false_iff.mp e).2).trans (h.sp (Bool.or_eq_false_iff.mp e).1)
  halted e := (k.halted (Bool.or_eq_false_iff.mp e).2).trans (h.halted (Bool.or_eq_false_iff.mp e).1)
  ie e := (k.ie (Bool.or_eq_false_iff.mp e).2).trans (h.ie (Bool.or_eq_false_iff.mp e).1)
  shiftData e := (k.shiftData (Bool.or_eq_false_iff.mp e).2).trans (h.shiftData (Bool.or_eq_false_iff.mp e).1)
  shiftOffset e := (k.shiftOffset (Bool.or_eq_false_iff.mp e).2).trans (h.shiftOffset (Bool.or_eq_false_iff.mp e).1)
  port1 := k.port1.trans h.port1
  port2 := k.port2.trans h.port2
  intSched := k.intSched.trans h.intSched
  cycleAcc := k.cycleAcc.trans h.cycleAcc
  half := k.half.trans h.half
  script := k.script.trans h.script

section
variable {c : Changes} {s t : State} (h : Frame c s t)
include h

theorem Frame.restoreRegs (back : ∀ r ∈ c.regs, t.reg r = s.reg r) : Frame { c with regs := [] } s t :=
  { h with regs := fun r _ => (Decidable.em (r ∈ c.regs)).elim (back r) (h.regs r) }

theorem Frame.restoreFlags (back : t.flags = s.flags) : Frame { c with flags := false } s t :=
  { h with flags := fun _ => back }

theorem Frame.restorePc (back : t.pc = s.pc) : Frame { c with pc := false } s t :=
  { h with pc := fun _ => back }

theorem Frame.restoreSp (back : t.sp = s.sp) : Frame { c with sp := false } s t :=
  { h with sp := fun _ => back }

end

/-! ### A return after a call (O39) -/

/-- The word pushed is popped, so PC and SP are given back and the two bytes below SP stay written. -/
theorem call_ret_effect (s : State) (k : Word) :
    (s.call k).ret.pc = s.pc ∧ (s.call k).ret.sp = s.sp ∧ Frame { bytes := pushedBytes s.sp } s (s.call k).ret := by
  have pc : (s.call k).ret.pc = s.pc := stackTop_push16 s s.pc
  have sp : (s.call k).ret.sp = s.sp := sp_pop_push s.sp
  exact ⟨pc, sp, (((frame_call s k).union (frame_ret _)).restorePc pc).restoreSp sp⟩

/-- Settles O39: every form answers a `call`, and every return form a `ret`. -/
theorem returnUndoesACall : Obligations.ReturnUndoesACall := by
  intro s i k n t form executed j returns
  obtain ⟨target, called⟩ : ∃ target, exec i s = .next (s.call target) := by
    rcases form with call | rfl
    · exact ⟨k, exec_callForms k i call s⟩
    · exact ⟨vectorAddress n, exec_rst n s⟩
  obtain rfl := Host.Outcome.next.inj (called.symm.trans executed)
  exact ⟨_, exec_retForms j returns _, call_ret_effect s target⟩

/-! ### An interrupt, and the return from it (O50, O52) -/

/-- The state whose call an accepted request is: IE and `halted` cleared. -/
def State.acknowledged (s : State) : State := { s with ie := false, halted := false }

theorem State.requestInterrupt_eq_call {s : State} (h : s.ie = true) (v : BitVec 3) :
    s.requestInterrupt v = s.acknowledged.call (vectorAddress v) := State.requestInterrupt_of_ie h v

theorem frame_acknowledged (s : State) : Frame { ie := true, halted := true } s s.acknowledged :=
  (frame_ie s false).union (frame_halted _ false)

/-- Settles O50: a request dropped leaves the state; one accepted is a call to its vector with IE and `halted` cleared,
and so is DI then RST. -/
theorem interruptRequestEntersItsVector : Obligations.InterruptRequestEntersItsVector := by
  intro s v
  refine ⟨fun disabled => State.requestInterrupt_of_not_ie disabled v, fun enabled => ⟨_, rfl, ?accepted⟩⟩
  case accepted =>
    rw [State.requestInterrupt_eq_call enabled]
    obtain ⟨pc, high, low, sp, frame⟩ := call_effect s.acknowledged (vectorAddress v)
    exact ⟨rfl, rfl, high, low, sp, by rw [pc, toNat_vectorAddress], (frame_acknowledged s).union frame,
      _, exec_di _, exec_rst v _⟩

/-- Settles O52: the request is a call from the interrupted program with IE and `halted` cleared, and RET undoes a
call. -/
theorem retResumesTheInterruptedProgram : Obligations.RetResumesTheInterruptedProgram := by
  intro s v enabled
  rw [State.requestInterrupt_eq_call enabled]
  obtain ⟨pc, sp, frame⟩ := call_ret_effect s.acknowledged (vectorAddress v)
  exact ⟨_, exec_retForms .ret (by decide) _, pc, sp, rfl, rfl, (frame_acknowledged s).union frame⟩

/-! ### Push and pop (O42) -/

/-- The higher of the two bytes a push writes stands after the lower. -/
theorem next_pushedByte (sp : Word) : sp - 2 + 1 = sp - 1 := by bv_omega

/-- A pair pushed and popped is given back, and its bytes stay below SP. -/
theorem push_pop_pair_effect (s : State) (p : RegPair) :
    let t := s.push16 (s.rp p)
    let u := (t.setRp p t.stackTop).pop16
    u.byteAt (s.sp - 1) = s.reg p.high ∧ u.byteAt (s.sp - 2) = s.reg p.low ∧
      Frame { bytes := pushedBytes s.sp } s u := by
  intro t u
  obtain ⟨high, low, sp, pushed⟩ := push16_effect s (s.reg p.high) (s.reg p.low)
  obtain ⟨lowBack, highBack, spBack, popped⟩ := popPair_effect t p
  have regs : ∀ r ∈ [p.high, p.low], u.reg r = s.reg r := by
    simp only [List.mem_cons, List.not_mem_nil, or_false]
    rintro r (rfl | rfl)
    · rw [highBack, State.push16_sp, next_pushedByte]
      exact high
    · exact lowBack.trans low
  have kept (k : Word) : u.byteAt k = t.byteAt k := popped.bytes k nofun
  exact ⟨(kept _).trans high, (kept _).trans low,
    ((pushed.union popped).restoreRegs regs).restoreSp (spBack.trans (sp_pop_push s.sp))⟩

/-- PSW pushed and popped is given back. -/
theorem push_pop_psw_effect (s : State) :
    let t := s.push16 (joinBytes s.a s.flags.toByte)
    Frame { bytes := pushedBytes s.sp } s (t.setPsw t.stackTop).pop16 := by
  intro t
  obtain ⟨-, -, -, pushed⟩ := push16_effect s s.a s.flags.toByte
  obtain ⟨-, -, spBack, popped⟩ := popPsw_effect t
  have top : t.stackTop = joinBytes s.a s.flags.toByte := stackTop_push16 s _
  have acc : hiByte t.stackTop = s.a := by rw [top, hiByte_joinBytes]
  have flags : Flags.ofByte (loByte t.stackTop) = s.flags := by rw [top, loByte_joinBytes, Flags.ofByte_toByte]
  have regs : ∀ r ∈ [Reg.a], (t.setPsw t.stackTop).pop16.reg r = s.reg r := by
    simp only [List.mem_singleton]
    rintro r rfl
    exact acc
  exact (((pushed.union popped).restoreRegs regs).restoreFlags flags).restoreSp (spBack.trans (sp_pop_push s.sp))

/-- A byte is its five flag bits and its three reserved bits. -/
theorem eq_of_ofByte_eq {v w : Byte} (flags : Flags.ofByte v = Flags.ofByte w) (one : v.getLsbD 1 = w.getLsbD 1)
    (three : v.getLsbD 3 = w.getLsbD 3) (five : v.getLsbD 5 = w.getLsbD 5) : v = w := by
  apply BitVec.eq_of_getLsbD_eq
  intro k hk
  interval_cases k
  exacts [congrArg Flags.cy flags, one, congrArg Flags.p flags, three, congrArg Flags.ac flags, five,
    congrArg Flags.z flags, congrArg Flags.s flags]

/-- Fixing the reserved bits leaves a byte exactly when they stand as they are fixed. -/
theorem fixReserved_eq_self_iff (v : Byte) :
    v &&& 0xD5 ||| 0x02 = v ↔ v.getLsbD 1 = true ∧ v.getLsbD 3 = false ∧ v.getLsbD 5 = false := by
  have fixed := (Flags.ofByte v).toByte_reserved
  rw [← Flags.toByte_ofByte]
  refine ⟨fun same => same ▸ fixed, fun ⟨one, three, five⟩ => ?_⟩
  obtain ⟨fixedOne, fixedThree, fixedFive⟩ := fixed
  exact eq_of_ofByte_eq (Flags.ofByte_toByte _) (fixedOne.trans one.symm) (fixedThree.trans three.symm)
    (fixedFive.trans five.symm)

/-- PSW popped and pushed: SP is given back, and no byte but the flag byte is written anew, with its reserved bits
fixed. -/
theorem pop_push_psw_effect (s : State) :
    let t := (s.setPsw s.stackTop).pop16
    let u := t.push16 (joinBytes t.a t.flags.toByte)
    u.sp = s.sp ∧ ∀ k, u.byteAt k = if k = s.sp then s.byteAt s.sp &&& 0xD5 ||| 0x02 else s.byteAt k := by
  intro t u
  obtain ⟨acc, flags, sp, popped⟩ := popPsw_effect s
  have lowPlace : t.sp - 2 = s.sp := by rw [sp]; bv_omega
  have highPlace : t.sp - 1 = s.sp + 1 := by rw [sp]; bv_omega
  refine ⟨lowPlace, fun k => ?_⟩
  rw [State.push16_byteAt, loByte_joinBytes, hiByte_joinBytes, lowPlace, highPlace, flags, Flags.toByte_ofByte, acc,
    popped.bytes k nofun]
  by_cases high : k = s.sp + 1
  · rw [if_pos high, high]
  · rw [if_neg high]

/-- Settles O42: the three round trips, the last leaving memory alone exactly when it leaves the flag byte alone. -/
theorem pushAndPopRoundTrip : Obligations.PushAndPopRoundTrip := by
  intro s
  obtain ⟨sp, bytes⟩ := pop_push_psw_effect s
  refine ⟨fun p => ⟨_, _, exec_push p s, exec_pop p _, push_pop_pair_effect s p⟩,
    ⟨_, _, exec_pushPsw s, exec_popPsw _, push_pop_psw_effect s⟩,
    ⟨_, _, exec_popPsw s, exec_pushPsw _, sp, (bytes s.sp).trans (if_pos rfl),
      (bytes _).trans (if_neg (ne_nextAddress s.sp).symm), ?unchanged⟩⟩
  case unchanged =>
    rw [← fixReserved_eq_self_iff]
    refine ⟨fun same => ?_, fun fixed k => ?_⟩
    · exact (if_pos rfl).symm.trans ((bytes s.sp).symm.trans (same s.sp))
    · rw [bytes, fixed]
      split_ifs with flagByte
      · rw [flagByte]
      · rfl

/-! ### The shifter fed and read (O45) -/

/-- Two bytes fed in push out all the shifter held. -/
theorem toNat_shifterInput_twice (data : Word) (v1 v2 : Byte) :
    (shifterInput (shifterInput data v1) v2).toNat = v2.toNat * 256 + v1.toNat := by
  have := data.isLt
  rw [toNat_shifterInput, toNat_shifterInput]
  omega

/-- Settles O45: the two bytes fed in are the shifter's data, and the offset is the number's low three bits. -/
theorem shifterForgetsItsPast : Obligations.ShifterForgetsItsPast := by
  intro s v1 v2 n
  have data := toNat_shifterInput_twice s.shiftData v1 v2
  refine ⟨_, _, _, _, exec_outPort 4 _, exec_outPort 4 _, exec_outPort 2 _, exec_inPort 3 _, data, ?read⟩
  case read =>
    rw [← data, ← BitVec.toNat_setWidth 3 n]
    exact toNat_shifterOutput _ _

end Sys2Proof.Machine
end
